-- ==== Sys2Proof/Word.lean ====
section
/-! DEFINITION. The word types of the decoder: bytes and the 16-bit words made of two of them
(spec/00_scope.md R10). -/

namespace Sys2Proof

/-- A byte is 8 bits, numbered 7 (most significant) to 0 (spec/00_scope.md R10). -/
abbrev Byte := BitVec 8

/-- A 16-bit field: an immediate word, a long index offset, a 16-bit displacement. -/
abbrev Word := BitVec 16

end Sys2Proof
end

