-- ==== Sys2Proof/Config.lean ====
section
/-! DEFINITION. The constant configuration of the decoder (spec/00_scope.md R8) and the types it is
made of: mode tags, operand tags, roles, sizes and templates (spec/10_state.md R27, R28, R29).
The default values stand in Machine/Templates.lean. -/

namespace Sys2Proof

/-- Mode tags (spec/10_state.md R28). The first nine are the source's, the last four the spec's own. -/
inductive Mode where
  | direct
  | immediate
  | indirect
  | indirectInc        -- `indirect+`
  | indexed
  | shortIndexed
  | longIndexed
  | extendedIndirect
  | extendedIndexed
  | inherent
  | relative
  | extendedRelative
  | fixed
deriving DecidableEq, Repr

/-- The closed set of operand tags (spec/10_state.md R29). -/
inductive Tag where
  | reg
  | imm8
  | imm16
  | ind
  | indInc
  | sidx
  | lidx
  | eind
  | eidx
  | cadd
  | xcadd
  | bitno
deriving DecidableEq, Repr

/-- Operand roles of a template (spec/10_state.md R27). -/
inductive Role where
  | reg
  | aop
  | cnt
  | imm8
  | ind
  | ptr
  | cadd
  | bitno
deriving DecidableEq, Repr

/-- Operand sizes of a template, informational (spec/10_state.md R27). -/
inductive Size where
  | B
  | W
  | L
  | T
  | Q
  | C
  | X
  | N
deriving DecidableEq, Repr

/-- One operand descriptor of a template: `(name, role, size, var_types)` (spec/10_state.md R27). -/
structure OperandDesc where
  name     : String
  role     : Role
  size     : Size
  varTypes : List Tag
deriving DecidableEq, Repr

/-- The static record of one opcode (spec/10_state.md R27). `length` is the nominal byte length,
without the signed prefix and without the long-index extra byte. -/
structure Template where
  mnemonic       : String
  length         : Nat
  ops            : List OperandDesc
  mode           : Mode
  variableLength : Bool
  ignore         : Bool
  reserved       : Bool
  description    : String
deriving DecidableEq, Repr

/-- Which byte's bit 0 disambiguates the mode of a signed opcode: `win[2]` or `win[1]`
(spec/00_scope.md R8, spec/30_encoding.md R80). -/
inductive SignedModeByte where
  | operand
  | literal
deriving DecidableEq, Repr

/-- What the 21-bit mask applies to: the target sum or the displacement (spec/40_resolution.md R113). -/
inductive ExtMaskPoint where
  | target
  | displacement
deriving DecidableEq, Repr

/-- One substitution of the register-name service: for this `printf`-style template and this integer
value it answers `text`, a symbolic name for a reserved value, in place of the plain formatting
(spec/40_resolution.md R150). -/
structure RegName where
  template : String
  value    : Int
  text     : String
deriving DecidableEq, Repr

/-- The implementation parameters of spec/00_scope.md R8. REGNAME, a function in the spec, is held
as the finite list of its substitutions over plain numeric formatting, and is that function in
`Machine.regName` (assumption log, entry 9). -/
structure Params where
  /-- SIGNED_PREFIX -/
  signedPrefix   : Byte
  /-- TEMPLATES_U, a partial map from a byte to a template -/
  templatesU     : List (Byte × Template)
  /-- TEMPLATES_S -/
  templatesS     : List (Byte × Template)
  /-- MAX_LEN, bytes in the input window -/
  maxLen         : Nat
  /-- ADDR_W, the width of the address port; nothing in the decoder depends on it (D3) -/
  addrW          : Nat
  /-- EXT_ADDR_MASK -/
  extAddrMask    : Nat
  /-- EXT_MASK_POINT -/
  extMaskPoint   : ExtMaskPoint
  /-- IND_PTR_MASK -/
  indPtrMask     : Byte
  /-- EXT_PTR_MASK -/
  extPtrMask     : Byte
  /-- XREF_THRESHOLD -/
  xrefThreshold  : Nat
  /-- SIGNED_MODE_BYTE -/
  signedModeByte : SignedModeByte
  /-- REGNAME -/
  regNames       : List RegName
deriving DecidableEq, Repr

end Sys2Proof
end

