-- ==== Sys2Proof/Machine/Bits.lean ====
section
/-! DEFINITION. Bit fields, byte order and sign extension (spec/00_scope.md R10, spec/20_memory.md
R53, R54). -/

namespace Sys2Proof.Machine

/-- `le16(a, b)`: byte `a` is low (R10, R53). -/
def le16 (lo hi : Byte) : Word := hi ++ lo

/-- `le24(a, b, c)`: byte `a` is lowest (R10, R53). -/
def le24 (b0 b1 b2 : Byte) : BitVec 24 := b2 ++ b1 ++ b0

/-- Byte `k` of a field, byte 0 the least significant: the inverse of `le16` and `le24`. -/
def byteOf {n : Nat} (v : BitVec n) (k : Nat) : Byte := v.extractLsb' (8 * k) 8

/-- `v[0]`: the mode bit of a byte (R10, spec/30_encoding.md R80). -/
def bit0 (b : Byte) : Bool := b.getLsbD 0

/-- `sext_N(v)`: the N-bit value read as two's complement (R10). -/
def sext {n : Nat} (v : BitVec n) : Int := v.toInt

/-- `x & m` for an integer `x` in two's complement and a non-negative mask `m`
(spec/40_resolution.md R113: "with `&` on a negative integer taken in two's complement"). For a
negative `x` the bits of `x` are those of `-x - 1` inverted. -/
def maskInt (x : Int) (m : Nat) : Nat :=
  match x with
  | .ofNat a   => a &&& m
  | .negSucc a => m ^^^ (m &&& a)

end Sys2Proof.Machine
end

