-- ==== Sys2Proof/Machine/Templates.lean ====
section
/-! DEFINITION. The default template tables (spec/30_encoding.md R75, R76 and
spec/opcode_table.json, whose rows give the operands, modes, lengths and flags) and the default
parameters (spec/00_scope.md R8). The template of a row is named `t` followed by the name of the
row's constructor. The signed templates' lengths are nominal: they exclude the prefix (R76). -/

namespace Sys2Proof.Machine

/-- A template that is neither Ignore nor Reserved; VariableLength is set exactly on mode `indexed`
(spec/30_encoding.md R75, D8; spec/10_state.md R34). -/
def plainTemplate (mnemonic : String) (length : Nat) (mode : Mode) (ops : List OperandDesc)
    (description : String) : Template :=
  { mnemonic, length, ops, mode, variableLength := mode == .indexed, ignore := false,
    reserved := false, description }

/-- A filler template: Ignore is set (spec/10_state.md R34, D25). -/
def fillerTemplate (mnemonic : String) (length : Nat) (description : String) : Template :=
  { mnemonic, length, ops := [], mode := .inherent, variableLength := false, ignore := true,
    reserved := false, description }

/-! R283 -/
def tSkip : Template := fillerTemplate "SKIP" 2 "two-byte no-operation"
/-! R284 -/
def tClrw : Template :=
  plainTemplate "CLRW" 2 .direct [⟨"dst", .reg, .W, [.reg]⟩] "clear word"
/-! R285 -/
def tNotw : Template :=
  plainTemplate "NOTW" 2 .direct [⟨"dst", .reg, .W, [.reg]⟩] "complement word"
/-! R286 -/
def tNegw : Template :=
  plainTemplate "NEGW" 2 .direct [⟨"dst", .reg, .W, [.reg]⟩] "negate word"
/-! R287 -/
def tXchDir : Template :=
  plainTemplate "XCH" 3 .direct [⟨"dst", .reg, .W, [.reg]⟩, ⟨"src", .aop, .W, [.reg]⟩] "exchange word"
/-! R288 -/
def tDecw : Template :=
  plainTemplate "DECW" 2 .direct [⟨"dst", .reg, .W, [.reg]⟩] "decrement word"
/-! R289 -/
def tExt : Template :=
  plainTemplate "EXT" 2 .direct [⟨"dst", .reg, .L, [.reg]⟩] "sign-extend word into long"
/-! R290 -/
def tIncw : Template :=
  plainTemplate "INCW" 2 .direct [⟨"dst", .reg, .W, [.reg]⟩] "increment word"
/-! R291 -/
def tShrw : Template :=
  plainTemplate "SHRW" 3 .direct [⟨"dst", .reg, .W, [.reg]⟩, ⟨"cnt", .cnt, .B, [.reg, .imm8]⟩] "logical shift right word"
/-! R292 -/
def tShlw : Template :=
  plainTemplate "SHLW" 3 .direct [⟨"dst", .reg, .W, [.reg]⟩, ⟨"cnt", .cnt, .B, [.reg, .imm8]⟩] "shift left word"
/-! R293 -/
def tShraw : Template :=
  plainTemplate "SHRAW" 3 .direct [⟨"dst", .reg, .W, [.reg]⟩, ⟨"cnt", .cnt, .B, [.reg, .imm8]⟩] "arithmetic shift right word"
/-! R287 -/
def tXchIdx : Template :=
  plainTemplate "XCH" 4 .indexed [⟨"dst", .reg, .W, [.reg]⟩, ⟨"src", .aop, .W, [.reg, .imm8]⟩] "exchange word"
/-! R294 -/
def tShrl : Template :=
  plainTemplate "SHRL" 3 .direct [⟨"dst", .reg, .L, [.reg]⟩, ⟨"cnt", .cnt, .B, [.reg, .imm8]⟩] "logical shift right long"
/-! R295 -/
def tShll : Template :=
  plainTemplate "SHLL" 3 .direct [⟨"dst", .reg, .L, [.reg]⟩, ⟨"cnt", .cnt, .B, [.reg, .imm8]⟩] "shift left long"
/-! R296 -/
def tShral : Template :=
  plainTemplate "SHRAL" 3 .direct [⟨"dst", .reg, .L, [.reg]⟩, ⟨"cnt", .cnt, .B, [.reg, .imm8]⟩] "arithmetic shift right long"
/-! R297 -/
def tNorml : Template :=
  plainTemplate "NORML" 3 .direct [⟨"dst", .reg, .L, [.reg]⟩, ⟨"cnt", .reg, .B, [.reg]⟩] "normalize long"
/-! R298 -/
def tClrb : Template :=
  plainTemplate "CLRB" 2 .direct [⟨"dst", .reg, .B, [.reg]⟩] "clear byte"
/-! R299 -/
def tNotb : Template :=
  plainTemplate "NOTB" 2 .direct [⟨"dst", .reg, .B, [.reg]⟩] "complement byte"
/-! R300 -/
def tNegb : Template :=
  plainTemplate "NEGB" 2 .direct [⟨"dst", .reg, .B, [.reg]⟩] "negate byte"
/-! R301 -/
def tXchbDir : Template :=
  plainTemplate "XCHB" 3 .direct [⟨"dst", .reg, .B, [.reg]⟩, ⟨"src", .aop, .B, [.reg]⟩] "exchange byte"
/-! R302 -/
def tDecb : Template :=
  plainTemplate "DECB" 2 .direct [⟨"dst", .reg, .B, [.reg]⟩] "decrement byte"
/-! R303 -/
def tExtb : Template :=
  plainTemplate "EXTB" 2 .direct [⟨"dst", .reg, .W, [.reg]⟩] "sign-extend byte into word"
/-! R304 -/
def tIncb : Template :=
  plainTemplate "INCB" 2 .direct [⟨"dst", .reg, .B, [.reg]⟩] "increment byte"
/-! R305 -/
def tShrb : Template :=
  plainTemplate "SHRB" 3 .direct [⟨"dst", .reg, .B, [.reg]⟩, ⟨"cnt", .cnt, .B, [.reg, .imm8]⟩] "logical shift right byte"
/-! R306 -/
def tShlb : Template :=
  plainTemplate "SHLB" 3 .direct [⟨"dst", .reg, .B, [.reg]⟩, ⟨"cnt", .cnt, .B, [.reg, .imm8]⟩] "shift left byte"
/-! R307 -/
def tShrab : Template :=
  plainTemplate "SHRAB" 3 .direct [⟨"dst", .reg, .B, [.reg]⟩, ⟨"cnt", .cnt, .B, [.reg, .imm8]⟩] "arithmetic shift right byte"
/-! R301 -/
def tXchbIdx : Template :=
  plainTemplate "XCHB" 4 .indexed [⟨"dst", .reg, .B, [.reg]⟩, ⟨"src", .aop, .B, [.reg, .imm8]⟩] "exchange byte"
/-! R308 -/
def tEstEInd : Template :=
  plainTemplate "EST" 3 .extendedIndirect [⟨"src", .reg, .W, [.reg]⟩, ⟨"dst", .ptr, .T, [.reg, .imm8]⟩] "extended store word"
def tEstEIdx : Template :=
  plainTemplate "EST" 6 .extendedIndexed [⟨"src", .reg, .W, [.reg]⟩, ⟨"dst", .ptr, .T, [.eidx]⟩] "extended store word"
/-! R309 -/
def tEstbEInd : Template :=
  plainTemplate "ESTB" 3 .extendedIndirect [⟨"src", .reg, .B, [.reg]⟩, ⟨"dst", .ptr, .T, [.reg, .imm8]⟩] "extended store byte"
def tEstbEIdx : Template :=
  plainTemplate "ESTB" 6 .extendedIndexed [⟨"src", .reg, .B, [.reg]⟩, ⟨"dst", .ptr, .T, [.eidx]⟩] "extended store byte"
/-! R161 -/
def tSjmp : Template :=
  plainTemplate "SJMP" 2 .relative [⟨"cadd", .cadd, .C, [.cadd]⟩] "short jump"
/-! R162 -/
def tScall : Template :=
  plainTemplate "SCALL" 2 .relative [⟨"cadd", .cadd, .C, [.cadd]⟩] "short call"
/-! R171 -/
def tJbc : Template :=
  plainTemplate "JBC" 3 .relative [⟨"reg", .reg, .B, [.reg]⟩, ⟨"bitno", .bitno, .N, [.bitno]⟩, ⟨"cadd", .cadd, .C, [.cadd]⟩] "jump if bit clear"
/-! R172 -/
def tJbs : Template :=
  plainTemplate "JBS" 3 .relative [⟨"reg", .reg, .B, [.reg]⟩, ⟨"bitno", .bitno, .N, [.bitno]⟩, ⟨"cadd", .cadd, .C, [.cadd]⟩] "jump if bit set"
/-! R321 -/
def tAnd3Dir : Template :=
  plainTemplate "AND" 4 .direct [⟨"dst", .reg, .W, [.reg]⟩, ⟨"src1", .reg, .W, [.reg]⟩, ⟨"src2", .aop, .W, [.reg]⟩] "logical AND words"
def tAnd3Imm : Template :=
  plainTemplate "AND" 5 .immediate [⟨"dst", .reg, .W, [.reg]⟩, ⟨"src1", .reg, .W, [.reg]⟩, ⟨"src2", .aop, .W, [.imm16]⟩] "logical AND words"
def tAnd3Ind : Template :=
  plainTemplate "AND" 4 .indirect [⟨"dst", .reg, .W, [.reg]⟩, ⟨"src1", .reg, .W, [.reg]⟩, ⟨"src2", .aop, .W, [.ind, .indInc]⟩] "logical AND words"
def tAnd3Idx : Template :=
  plainTemplate "AND" 5 .indexed [⟨"dst", .reg, .W, [.reg]⟩, ⟨"src1", .reg, .W, [.reg]⟩, ⟨"src2", .aop, .W, [.sidx, .lidx]⟩] "logical AND words"
/-! R322 -/
def tAdd3Dir : Template :=
  plainTemplate "ADD" 4 .direct [⟨"dst", .reg, .W, [.reg]⟩, ⟨"src1", .reg, .W, [.reg]⟩, ⟨"src2", .aop, .W, [.reg]⟩] "add words"
def tAdd3Imm : Template :=
  plainTemplate "ADD" 5 .immediate [⟨"dst", .reg, .W, [.reg]⟩, ⟨"src1", .reg, .W, [.reg]⟩, ⟨"src2", .aop, .W, [.imm16]⟩] "add words"
def tAdd3Ind : Template :=
  plainTemplate "ADD" 4 .indirect [⟨"dst", .reg, .W, [.reg]⟩, ⟨"src1", .reg, .W, [.reg]⟩, ⟨"src2", .aop, .W, [.ind, .indInc]⟩] "add words"
def tAdd3Idx : Template :=
  plainTemplate "ADD" 5 .indexed [⟨"dst", .reg, .W, [.reg]⟩, ⟨"src1", .reg, .W, [.reg]⟩, ⟨"src2", .aop, .W, [.sidx, .lidx]⟩] "add words"
/-! R323 -/
def tSub3Dir : Template :=
  plainTemplate "SUB" 4 .direct [⟨"dst", .reg, .W, [.reg]⟩, ⟨"src1", .reg, .W, [.reg]⟩, ⟨"src2", .aop, .W, [.reg]⟩] "subtract words"
def tSub3Imm : Template :=
  plainTemplate "SUB" 5 .immediate [⟨"dst", .reg, .W, [.reg]⟩, ⟨"src1", .reg, .W, [.reg]⟩, ⟨"src2", .aop, .W, [.imm16]⟩] "subtract words"
def tSub3Ind : Template :=
  plainTemplate "SUB" 4 .indirect [⟨"dst", .reg, .W, [.reg]⟩, ⟨"src1", .reg, .W, [.reg]⟩, ⟨"src2", .aop, .W, [.ind, .indInc]⟩] "subtract words"
def tSub3Idx : Template :=
  plainTemplate "SUB" 5 .indexed [⟨"dst", .reg, .W, [.reg]⟩, ⟨"src1", .reg, .W, [.reg]⟩, ⟨"src2", .aop, .W, [.sidx, .lidx]⟩] "subtract words"
/-! R324 -/
def tMulu3Dir : Template :=
  plainTemplate "MULU" 4 .direct [⟨"dst", .reg, .L, [.reg]⟩, ⟨"src1", .reg, .W, [.reg]⟩, ⟨"src2", .aop, .W, [.reg]⟩] "unsigned multiply words"
def tMulu3Imm : Template :=
  plainTemplate "MULU" 5 .immediate [⟨"dst", .reg, .L, [.reg]⟩, ⟨"src1", .reg, .W, [.reg]⟩, ⟨"src2", .aop, .W, [.imm16]⟩] "unsigned multiply words"
def tMulu3Ind : Template :=
  plainTemplate "MULU" 4 .indirect [⟨"dst", .reg, .L, [.reg]⟩, ⟨"src1", .reg, .W, [.reg]⟩, ⟨"src2", .aop, .W, [.ind, .indInc]⟩] "unsigned multiply words"
def tMulu3Idx : Template :=
  plainTemplate "MULU" 5 .indexed [⟨"dst", .reg, .L, [.reg]⟩, ⟨"src1", .reg, .W, [.reg]⟩, ⟨"src2", .aop, .W, [.sidx, .lidx]⟩] "unsigned multiply words"
/-! R325 -/
def tAndb3Dir : Template :=
  plainTemplate "ANDB" 4 .direct [⟨"dst", .reg, .B, [.reg]⟩, ⟨"src1", .reg, .B, [.reg]⟩, ⟨"src2", .aop, .B, [.reg]⟩] "logical AND bytes"
def tAndb3Imm : Template :=
  plainTemplate "ANDB" 4 .immediate [⟨"dst", .reg, .B, [.reg]⟩, ⟨"src1", .reg, .B, [.reg]⟩, ⟨"src2", .aop, .B, [.imm8]⟩] "logical AND bytes"
def tAndb3Ind : Template :=
  plainTemplate "ANDB" 4 .indirect [⟨"dst", .reg, .B, [.reg]⟩, ⟨"src1", .reg, .B, [.reg]⟩, ⟨"src2", .aop, .B, [.ind, .indInc]⟩] "logical AND bytes"
def tAndb3Idx : Template :=
  plainTemplate "ANDB" 5 .indexed [⟨"dst", .reg, .B, [.reg]⟩, ⟨"src1", .reg, .B, [.reg]⟩, ⟨"src2", .aop, .B, [.sidx, .lidx]⟩] "logical AND bytes"
/-! R326 -/
def tAddb3Dir : Template :=
  plainTemplate "ADDB" 4 .direct [⟨"dst", .reg, .B, [.reg]⟩, ⟨"src1", .reg, .B, [.reg]⟩, ⟨"src2", .aop, .B, [.reg]⟩] "add bytes"
def tAddb3Imm : Template :=
  plainTemplate "ADDB" 4 .immediate [⟨"dst", .reg, .B, [.reg]⟩, ⟨"src1", .reg, .B, [.reg]⟩, ⟨"src2", .aop, .B, [.imm8]⟩] "add bytes"
def tAddb3Ind : Template :=
  plainTemplate "ADDB" 4 .indirect [⟨"dst", .reg, .B, [.reg]⟩, ⟨"src1", .reg, .B, [.reg]⟩, ⟨"src2", .aop, .B, [.ind, .indInc]⟩] "add bytes"
def tAddb3Idx : Template :=
  plainTemplate "ADDB" 5 .indexed [⟨"dst", .reg, .B, [.reg]⟩, ⟨"src1", .reg, .B, [.reg]⟩, ⟨"src2", .aop, .B, [.sidx, .lidx]⟩] "add bytes"
/-! R327 -/
def tSubb3Dir : Template :=
  plainTemplate "SUBB" 4 .direct [⟨"dst", .reg, .B, [.reg]⟩, ⟨"src1", .reg, .B, [.reg]⟩, ⟨"src2", .aop, .B, [.reg]⟩] "subtract bytes"
def tSubb3Imm : Template :=
  plainTemplate "SUBB" 4 .immediate [⟨"dst", .reg, .B, [.reg]⟩, ⟨"src1", .reg, .B, [.reg]⟩, ⟨"src2", .aop, .B, [.imm8]⟩] "subtract bytes"
def tSubb3Ind : Template :=
  plainTemplate "SUBB" 4 .indirect [⟨"dst", .reg, .B, [.reg]⟩, ⟨"src1", .reg, .B, [.reg]⟩, ⟨"src2", .aop, .B, [.ind, .indInc]⟩] "subtract bytes"
def tSubb3Idx : Template :=
  plainTemplate "SUBB" 5 .indexed [⟨"dst", .reg, .B, [.reg]⟩, ⟨"src1", .reg, .B, [.reg]⟩, ⟨"src2", .aop, .B, [.sidx, .lidx]⟩] "subtract bytes"
/-! R328 -/
def tMulub3Dir : Template :=
  plainTemplate "MULUB" 4 .direct [⟨"dst", .reg, .W, [.reg]⟩, ⟨"src1", .reg, .B, [.reg]⟩, ⟨"src2", .aop, .B, [.reg]⟩] "unsigned multiply bytes"
def tMulub3Imm : Template :=
  plainTemplate "MULUB" 4 .immediate [⟨"dst", .reg, .W, [.reg]⟩, ⟨"src1", .reg, .B, [.reg]⟩, ⟨"src2", .aop, .B, [.imm8]⟩] "unsigned multiply bytes"
def tMulub3Ind : Template :=
  plainTemplate "MULUB" 4 .indirect [⟨"dst", .reg, .W, [.reg]⟩, ⟨"src1", .reg, .B, [.reg]⟩, ⟨"src2", .aop, .B, [.ind, .indInc]⟩] "unsigned multiply bytes"
def tMulub3Idx : Template :=
  plainTemplate "MULUB" 5 .indexed [⟨"dst", .reg, .W, [.reg]⟩, ⟨"src1", .reg, .B, [.reg]⟩, ⟨"src2", .aop, .B, [.sidx, .lidx]⟩] "unsigned multiply bytes"
/-! R329 -/
def tAndDir : Template :=
  plainTemplate "AND" 3 .direct [⟨"dst", .reg, .W, [.reg]⟩, ⟨"src", .aop, .W, [.reg]⟩] "logical AND words"
def tAndImm : Template :=
  plainTemplate "AND" 4 .immediate [⟨"dst", .reg, .W, [.reg]⟩, ⟨"src", .aop, .W, [.imm16]⟩] "logical AND words"
def tAndInd : Template :=
  plainTemplate "AND" 3 .indirect [⟨"dst", .reg, .W, [.reg]⟩, ⟨"src", .aop, .W, [.ind, .indInc]⟩] "logical AND words"
def tAndIdx : Template :=
  plainTemplate "AND" 4 .indexed [⟨"dst", .reg, .W, [.reg]⟩, ⟨"src", .aop, .W, [.sidx, .lidx]⟩] "logical AND words"
/-! R330 -/
def tAddDir : Template :=
  plainTemplate "ADD" 3 .direct [⟨"dst", .reg, .W, [.reg]⟩, ⟨"src", .aop, .W, [.reg]⟩] "add words"
def tAddImm : Template :=
  plainTemplate "ADD" 4 .immediate [⟨"dst", .reg, .W, [.reg]⟩, ⟨"src", .aop, .W, [.imm16]⟩] "add words"
def tAddInd : Template :=
  plainTemplate "ADD" 3 .indirect [⟨"dst", .reg, .W, [.reg]⟩, ⟨"src", .aop, .W, [.ind, .indInc]⟩] "add words"
def tAddIdx : Template :=
  plainTemplate "ADD" 4 .indexed [⟨"dst", .reg, .W, [.reg]⟩, ⟨"src", .aop, .W, [.sidx, .lidx]⟩] "add words"
/-! R331 -/
def tSubDir : Template :=
  plainTemplate "SUB" 3 .direct [⟨"dst", .reg, .W, [.reg]⟩, ⟨"src", .aop, .W, [.reg]⟩] "subtract words"
def tSubImm : Template :=
  plainTemplate "SUB" 4 .immediate [⟨"dst", .reg, .W, [.reg]⟩, ⟨"src", .aop, .W, [.imm16]⟩] "subtract words"
def tSubInd : Template :=
  plainTemplate "SUB" 3 .indirect [⟨"dst", .reg, .W, [.reg]⟩, ⟨"src", .aop, .W, [.ind, .indInc]⟩] "subtract words"
def tSubIdx : Template :=
  plainTemplate "SUB" 4 .indexed [⟨"dst", .reg, .W, [.reg]⟩, ⟨"src", .aop, .W, [.sidx, .lidx]⟩] "subtract words"
/-! R332 -/
def tMuluDir : Template :=
  plainTemplate "MULU" 3 .direct [⟨"dst", .reg, .L, [.reg]⟩, ⟨"src", .aop, .W, [.reg]⟩] "unsigned multiply words"
def tMuluImm : Template :=
  plainTemplate "MULU" 4 .immediate [⟨"dst", .reg, .L, [.reg]⟩, ⟨"src", .aop, .W, [.imm16]⟩] "unsigned multiply words"
def tMuluInd : Template :=
  plainTemplate "MULU" 3 .indirect [⟨"dst", .reg, .L, [.reg]⟩, ⟨"src", .aop, .W, [.ind, .indInc]⟩] "unsigned multiply words"
def tMuluIdx : Template :=
  plainTemplate "MULU" 4 .indexed [⟨"dst", .reg, .L, [.reg]⟩, ⟨"src", .aop, .W, [.sidx, .lidx]⟩] "unsigned multiply words"
/-! R333 -/
def tAndbDir : Template :=
  plainTemplate "ANDB" 3 .direct [⟨"dst", .reg, .B, [.reg]⟩, ⟨"src", .aop, .B, [.reg]⟩] "logical AND bytes"
def tAndbImm : Template :=
  plainTemplate "ANDB" 3 .immediate [⟨"dst", .reg, .B, [.reg]⟩, ⟨"src", .aop, .B, [.imm8]⟩] "logical AND bytes"
def tAndbInd : Template :=
  plainTemplate "ANDB" 3 .indirect [⟨"dst", .reg, .B, [.reg]⟩, ⟨"src", .aop, .B, [.ind, .indInc]⟩] "logical AND bytes"
def tAndbIdx : Template :=
  plainTemplate "ANDB" 4 .indexed [⟨"dst", .reg, .B, [.reg]⟩, ⟨"src", .aop, .B, [.sidx, .lidx]⟩] "logical AND bytes"
/-! R334 -/
def tAddbDir : Template :=
  plainTemplate "ADDB" 3 .direct [⟨"dst", .reg, .B, [.reg]⟩, ⟨"src", .aop, .B, [.reg]⟩] "add bytes"
def tAddbImm : Template :=
  plainTemplate "ADDB" 3 .immediate [⟨"dst", .reg, .B, [.reg]⟩, ⟨"src", .aop, .B, [.imm8]⟩] "add bytes"
def tAddbInd : Template :=
  plainTemplate "ADDB" 3 .indirect [⟨"dst", .reg, .B, [.reg]⟩, ⟨"src", .aop, .B, [.ind, .indInc]⟩] "add bytes"
def tAddbIdx : Template :=
  plainTemplate "ADDB" 4 .indexed [⟨"dst", .reg, .B, [.reg]⟩, ⟨"src", .aop, .B, [.sidx, .lidx]⟩] "add bytes"
/-! R335 -/
def tSubbDir : Template :=
  plainTemplate "SUBB" 3 .direct [⟨"dst", .reg, .B, [.reg]⟩, ⟨"src", .aop, .B, [.reg]⟩] "subtract bytes"
def tSubbImm : Template :=
  plainTemplate "SUBB" 3 .immediate [⟨"dst", .reg, .B, [.reg]⟩, ⟨"src", .aop, .B, [.imm8]⟩] "subtract bytes"
def tSubbInd : Template :=
  plainTemplate "SUBB" 3 .indirect [⟨"dst", .reg, .B, [.reg]⟩, ⟨"src", .aop, .B, [.ind, .indInc]⟩] "subtract bytes"
def tSubbIdx : Template :=
  plainTemplate "SUBB" 4 .indexed [⟨"dst", .reg, .B, [.reg]⟩, ⟨"src", .aop, .B, [.sidx, .lidx]⟩] "subtract bytes"
/-! R336 -/
def tMulubDir : Template :=
  plainTemplate "MULUB" 3 .direct [⟨"dst", .reg, .W, [.reg]⟩, ⟨"src", .aop, .B, [.reg]⟩] "unsigned multiply bytes"
def tMulubImm : Template :=
  plainTemplate "MULUB" 3 .immediate [⟨"dst", .reg, .W, [.reg]⟩, ⟨"src", .aop, .B, [.imm8]⟩] "unsigned multiply bytes"
def tMulubInd : Template :=
  plainTemplate "MULUB" 3 .indirect [⟨"dst", .reg, .W, [.reg]⟩, ⟨"src", .aop, .B, [.ind, .indInc]⟩] "unsigned multiply bytes"
def tMulubIdx : Template :=
  plainTemplate "MULUB" 4 .indexed [⟨"dst", .reg, .W, [.reg]⟩, ⟨"src", .aop, .B, [.sidx, .lidx]⟩] "unsigned multiply bytes"
/-! R337 -/
def tOrDir : Template :=
  plainTemplate "OR" 3 .direct [⟨"dst", .reg, .W, [.reg]⟩, ⟨"src", .aop, .W, [.reg]⟩] "logical OR words"
def tOrImm : Template :=
  plainTemplate "OR" 4 .immediate [⟨"dst", .reg, .W, [.reg]⟩, ⟨"src", .aop, .W, [.imm16]⟩] "logical OR words"
def tOrInd : Template :=
  plainTemplate "OR" 3 .indirect [⟨"dst", .reg, .W, [.reg]⟩, ⟨"src", .aop, .W, [.ind, .indInc]⟩] "logical OR words"
def tOrIdx : Template :=
  plainTemplate "OR" 4 .indexed [⟨"dst", .reg, .W, [.reg]⟩, ⟨"src", .aop, .W, [.sidx, .lidx]⟩] "logical OR words"
/-! R338 -/
def tXorDir : Template :=
  plainTemplate "XOR" 3 .direct [⟨"dst", .reg, .W, [.reg]⟩, ⟨"src", .aop, .W, [.reg]⟩] "exclusive OR words"
def tXorImm : Template :=
  plainTemplate "XOR" 4 .immediate [⟨"dst", .reg, .W, [.reg]⟩, ⟨"src", .aop, .W, [.imm16]⟩] "exclusive OR words"
def tXorInd : Template :=
  plainTemplate "XOR" 3 .indirect [⟨"dst", .reg, .W, [.reg]⟩, ⟨"src", .aop, .W, [.ind, .indInc]⟩] "exclusive OR words"
def tXorIdx : Template :=
  plainTemplate "XOR" 4 .indexed [⟨"dst", .reg, .W, [.reg]⟩, ⟨"src", .aop, .W, [.sidx, .lidx]⟩] "exclusive OR words"
/-! R339 -/
def tCmpDir : Template :=
  plainTemplate "CMP" 3 .direct [⟨"dst", .reg, .W, [.reg]⟩, ⟨"src", .aop, .W, [.reg]⟩] "compare words"
def tCmpImm : Template :=
  plainTemplate "CMP" 4 .immediate [⟨"dst", .reg, .W, [.reg]⟩, ⟨"src", .aop, .W, [.imm16]⟩] "compare words"
def tCmpInd : Template :=
  plainTemplate "CMP" 3 .indirect [⟨"dst", .reg, .W, [.reg]⟩, ⟨"src", .aop, .W, [.ind, .indInc]⟩] "compare words"
def tCmpIdx : Template :=
  plainTemplate "CMP" 4 .indexed [⟨"dst", .reg, .W, [.reg]⟩, ⟨"src", .aop, .W, [.sidx, .lidx]⟩] "compare words"
/-! R340 -/
def tDivuDir : Template :=
  plainTemplate "DIVU" 3 .direct [⟨"dst", .reg, .L, [.reg]⟩, ⟨"src", .aop, .W, [.reg]⟩] "unsigned divide long by word"
def tDivuImm : Template :=
  plainTemplate "DIVU" 4 .immediate [⟨"dst", .reg, .L, [.reg]⟩, ⟨"src", .aop, .W, [.imm16]⟩] "unsigned divide long by word"
def tDivuInd : Template :=
  plainTemplate "DIVU" 3 .indirect [⟨"dst", .reg, .L, [.reg]⟩, ⟨"src", .aop, .W, [.ind, .indInc]⟩] "unsigned divide long by word"
def tDivuIdx : Template :=
  plainTemplate "DIVU" 4 .indexed [⟨"dst", .reg, .L, [.reg]⟩, ⟨"src", .aop, .W, [.sidx, .lidx]⟩] "unsigned divide long by word"
/-! R341 -/
def tOrbDir : Template :=
  plainTemplate "ORB" 3 .direct [⟨"dst", .reg, .B, [.reg]⟩, ⟨"src", .aop, .B, [.reg]⟩] "logical OR bytes"
def tOrbImm : Template :=
  plainTemplate "ORB" 3 .immediate [⟨"dst", .reg, .B, [.reg]⟩, ⟨"src", .aop, .B, [.imm8]⟩] "logical OR bytes"
def tOrbInd : Template :=
  plainTemplate "ORB" 3 .indirect [⟨"dst", .reg, .B, [.reg]⟩, ⟨"src", .aop, .B, [.ind, .indInc]⟩] "logical OR bytes"
def tOrbIdx : Template :=
  plainTemplate "ORB" 4 .indexed [⟨"dst", .reg, .B, [.reg]⟩, ⟨"src", .aop, .B, [.sidx, .lidx]⟩] "logical OR bytes"
/-! R342 -/
def tXorbDir : Template :=
  plainTemplate "XORB" 3 .direct [⟨"dst", .reg, .B, [.reg]⟩, ⟨"src", .aop, .B, [.reg]⟩] "exclusive OR bytes"
def tXorbImm : Template :=
  plainTemplate "XORB" 3 .immediate [⟨"dst", .reg, .B, [.reg]⟩, ⟨"src", .aop, .B, [.imm8]⟩] "exclusive OR bytes"
def tXorbInd : Template :=
  plainTemplate "XORB" 3 .indirect [⟨"dst", .reg, .B, [.reg]⟩, ⟨"src", .aop, .B, [.ind, .indInc]⟩] "exclusive OR bytes"
def tXorbIdx : Template :=
  plainTemplate "XORB" 4 .indexed [⟨"dst", .reg, .B, [.reg]⟩, ⟨"src", .aop, .B, [.sidx, .lidx]⟩] "exclusive OR bytes"
/-! R343 -/
def tCmpbDir : Template :=
  plainTemplate "CMPB" 3 .direct [⟨"dst", .reg, .B, [.reg]⟩, ⟨"src", .aop, .B, [.reg]⟩] "compare bytes"
def tCmpbImm : Template :=
  plainTemplate "CMPB" 3 .immediate [⟨"dst", .reg, .B, [.reg]⟩, ⟨"src", .aop, .B, [.imm8]⟩] "compare bytes"
def tCmpbInd : Template :=
  plainTemplate "CMPB" 3 .indirect [⟨"dst", .reg, .B, [.reg]⟩, ⟨"src", .aop, .B, [.ind, .indInc]⟩] "compare bytes"
def tCmpbIdx : Template :=
  plainTemplate "CMPB" 4 .indexed [⟨"dst", .reg, .B, [.reg]⟩, ⟨"src", .aop, .B, [.sidx, .lidx]⟩] "compare bytes"
/-! R344 -/
def tDivubDir : Template :=
  plainTemplate "DIVUB" 3 .direct [⟨"dst", .reg, .W, [.reg]⟩, ⟨"src", .aop, .B, [.reg]⟩] "unsigned divide word by byte"
def tDivubImm : Template :=
  plainTemplate "DIVUB" 3 .immediate [⟨"dst", .reg, .W, [.reg]⟩, ⟨"src", .aop, .B, [.imm8]⟩] "unsigned divide word by byte"
def tDivubInd : Template :=
  plainTemplate "DIVUB" 3 .indirect [⟨"dst", .reg, .W, [.reg]⟩, ⟨"src", .aop, .B, [.ind, .indInc]⟩] "unsigned divide word by byte"
def tDivubIdx : Template :=
  plainTemplate "DIVUB" 4 .indexed [⟨"dst", .reg, .W, [.reg]⟩, ⟨"src", .aop, .B, [.sidx, .lidx]⟩] "unsigned divide word by byte"
/-! R345 -/
def tLdDir : Template :=
  plainTemplate "LD" 3 .direct [⟨"dst", .reg, .W, [.reg]⟩, ⟨"src", .aop, .W, [.reg]⟩] "load word"
def tLdImm : Template :=
  plainTemplate "LD" 4 .immediate [⟨"dst", .reg, .W, [.reg]⟩, ⟨"src", .aop, .W, [.imm16]⟩] "load word"
def tLdInd : Template :=
  plainTemplate "LD" 3 .indirect [⟨"dst", .reg, .W, [.reg]⟩, ⟨"src", .aop, .W, [.ind, .indInc]⟩] "load word"
def tLdIdx : Template :=
  plainTemplate "LD" 4 .indexed [⟨"dst", .reg, .W, [.reg]⟩, ⟨"src", .aop, .W, [.sidx, .lidx]⟩] "load word"
/-! R346 -/
def tAddcDir : Template :=
  plainTemplate "ADDC" 3 .direct [⟨"dst", .reg, .W, [.reg]⟩, ⟨"src", .aop, .W, [.reg]⟩] "add words with carry"
def tAddcImm : Template :=
  plainTemplate "ADDC" 4 .immediate [⟨"dst", .reg, .W, [.reg]⟩, ⟨"src", .aop, .W, [.imm16]⟩] "add words with carry"
def tAddcInd : Template :=
  plainTemplate "ADDC" 3 .indirect [⟨"dst", .reg, .W, [.reg]⟩, ⟨"src", .aop, .W, [.ind, .indInc]⟩] "add words with carry"
def tAddcIdx : Template :=
  plainTemplate "ADDC" 4 .indexed [⟨"dst", .reg, .W, [.reg]⟩, ⟨"src", .aop, .W, [.sidx, .lidx]⟩] "add words with carry"
/-! R347 -/
def tSubcDir : Template :=
  plainTemplate "SUBC" 3 .direct [⟨"dst", .reg, .W, [.reg]⟩, ⟨"src", .aop, .W, [.reg]⟩] "subtract words with borrow"
def tSubcImm : Template :=
  plainTemplate "SUBC" 4 .immediate [⟨"dst", .reg, .W, [.reg]⟩, ⟨"src", .aop, .W, [.imm16]⟩] "subtract words with borrow"
def tSubcInd : Template :=
  plainTemplate "SUBC" 3 .indirect [⟨"dst", .reg, .W, [.reg]⟩, ⟨"src", .aop, .W, [.ind, .indInc]⟩] "subtract words with borrow"
def tSubcIdx : Template :=
  plainTemplate "SUBC" 4 .indexed [⟨"dst", .reg, .W, [.reg]⟩, ⟨"src", .aop, .W, [.sidx, .lidx]⟩] "subtract words with borrow"
/-! R348 -/
def tLdbzeDir : Template :=
  plainTemplate "LDBZE" 3 .direct [⟨"dst", .reg, .W, [.reg]⟩, ⟨"src", .aop, .B, [.reg]⟩] "load byte zero-extended into word"
def tLdbzeImm : Template :=
  plainTemplate "LDBZE" 3 .immediate [⟨"dst", .reg, .W, [.reg]⟩, ⟨"src", .aop, .B, [.imm8]⟩] "load byte zero-extended into word"
def tLdbzeInd : Template :=
  plainTemplate "LDBZE" 3 .indirect [⟨"dst", .reg, .W, [.reg]⟩, ⟨"src", .aop, .B, [.ind, .indInc]⟩] "load byte zero-extended into word"
def tLdbzeIdx : Template :=
  plainTemplate "LDBZE" 4 .indexed [⟨"dst", .reg, .W, [.reg]⟩, ⟨"src", .aop, .B, [.sidx, .lidx]⟩] "load byte zero-extended into word"
/-! R349 -/
def tLdbDir : Template :=
  plainTemplate "LDB" 3 .direct [⟨"dst", .reg, .B, [.reg]⟩, ⟨"src", .aop, .B, [.reg]⟩] "load byte"
def tLdbImm : Template :=
  plainTemplate "LDB" 3 .immediate [⟨"dst", .reg, .B, [.reg]⟩, ⟨"src", .aop, .B, [.imm8]⟩] "load byte"
def tLdbInd : Template :=
  plainTemplate "LDB" 3 .indirect [⟨"dst", .reg, .B, [.reg]⟩, ⟨"src", .aop, .B, [.ind, .indInc]⟩] "load byte"
def tLdbIdx : Template :=
  plainTemplate "LDB" 4 .indexed [⟨"dst", .reg, .B, [.reg]⟩, ⟨"src", .aop, .B, [.sidx, .lidx]⟩] "load byte"
/-! R350 -/
def tAddcbDir : Template :=
  plainTemplate "ADDCB" 3 .direct [⟨"dst", .reg, .B, [.reg]⟩, ⟨"src", .aop, .B, [.reg]⟩] "add bytes with carry"
def tAddcbImm : Template :=
  plainTemplate "ADDCB" 3 .immediate [⟨"dst", .reg, .B, [.reg]⟩, ⟨"src", .aop, .B, [.imm8]⟩] "add bytes with carry"
def tAddcbInd : Template :=
  plainTemplate "ADDCB" 3 .indirect [⟨"dst", .reg, .B, [.reg]⟩, ⟨"src", .aop, .B, [.ind, .indInc]⟩] "add bytes with carry"
def tAddcbIdx : Template :=
  plainTemplate "ADDCB" 4 .indexed [⟨"dst", .reg, .B, [.reg]⟩, ⟨"src", .aop, .B, [.sidx, .lidx]⟩] "add bytes with carry"
/-! R351 -/
def tSubcbDir : Template :=
  plainTemplate "SUBCB" 3 .direct [⟨"dst", .reg, .B, [.reg]⟩, ⟨"src", .aop, .B, [.reg]⟩] "subtract bytes with borrow"
def tSubcbImm : Template :=
  plainTemplate "SUBCB" 3 .immediate [⟨"dst", .reg, .B, [.reg]⟩, ⟨"src", .aop, .B, [.imm8]⟩] "subtract bytes with borrow"
def tSubcbInd : Template :=
  plainTemplate "SUBCB" 3 .indirect [⟨"dst", .reg, .B, [.reg]⟩, ⟨"src", .aop, .B, [.ind, .indInc]⟩] "subtract bytes with borrow"
def tSubcbIdx : Template :=
  plainTemplate "SUBCB" 4 .indexed [⟨"dst", .reg, .B, [.reg]⟩, ⟨"src", .aop, .B, [.sidx, .lidx]⟩] "subtract bytes with borrow"
/-! R352 -/
def tLdbseDir : Template :=
  plainTemplate "LDBSE" 3 .direct [⟨"dst", .reg, .W, [.reg]⟩, ⟨"src", .aop, .B, [.reg]⟩] "load byte sign-extended into word"
def tLdbseImm : Template :=
  plainTemplate "LDBSE" 3 .immediate [⟨"dst", .reg, .W, [.reg]⟩, ⟨"src", .aop, .B, [.imm8]⟩] "load byte sign-extended into word"
def tLdbseInd : Template :=
  plainTemplate "LDBSE" 3 .indirect [⟨"dst", .reg, .W, [.reg]⟩, ⟨"src", .aop, .B, [.ind, .indInc]⟩] "load byte sign-extended into word"
def tLdbseIdx : Template :=
  plainTemplate "LDBSE" 4 .indexed [⟨"dst", .reg, .W, [.reg]⟩, ⟨"src", .aop, .B, [.sidx, .lidx]⟩] "load byte sign-extended into word"
/-! R261 -/
def tStDir : Template :=
  plainTemplate "ST" 3 .direct [⟨"src", .reg, .W, [.reg]⟩, ⟨"dst", .aop, .W, [.reg]⟩] "store word"
/-! R262 -/
def tBmov : Template :=
  plainTemplate "BMOV" 3 .direct [⟨"ptrs", .reg, .L, [.reg]⟩, ⟨"cnt", .reg, .W, [.reg]⟩] "block move words"
/-! R261 -/
def tStInd : Template :=
  plainTemplate "ST" 3 .indirect [⟨"src", .reg, .W, [.reg]⟩, ⟨"dst", .aop, .W, [.ind, .indInc]⟩] "store word"
def tStIdx : Template :=
  plainTemplate "ST" 4 .indexed [⟨"src", .reg, .W, [.reg]⟩, ⟨"dst", .aop, .W, [.sidx, .lidx]⟩] "store word"
/-! R263 -/
def tStbDir : Template :=
  plainTemplate "STB" 3 .direct [⟨"src", .reg, .B, [.reg]⟩, ⟨"dst", .aop, .B, [.reg]⟩] "store byte"
/-! R264 -/
def tCmpl : Template :=
  plainTemplate "CMPL" 3 .direct [⟨"dst", .reg, .L, [.reg]⟩, ⟨"src", .reg, .L, [.reg]⟩] "compare long"
/-! R263 -/
def tStbInd : Template :=
  plainTemplate "STB" 3 .indirect [⟨"src", .reg, .B, [.reg]⟩, ⟨"dst", .aop, .B, [.ind, .indInc]⟩] "store byte"
def tStbIdx : Template :=
  plainTemplate "STB" 4 .indexed [⟨"src", .reg, .B, [.reg]⟩, ⟨"dst", .aop, .B, [.sidx, .lidx]⟩] "store byte"
/-! R265 -/
def tPushDir : Template :=
  plainTemplate "PUSH" 2 .direct [⟨"src", .aop, .W, [.reg]⟩] "push word"
def tPushImm : Template :=
  plainTemplate "PUSH" 3 .immediate [⟨"src", .aop, .W, [.imm16]⟩] "push word"
def tPushInd : Template :=
  plainTemplate "PUSH" 2 .indirect [⟨"src", .aop, .W, [.ind, .indInc]⟩] "push word"
def tPushIdx : Template :=
  plainTemplate "PUSH" 3 .indexed [⟨"src", .aop, .W, [.sidx, .lidx]⟩] "push word"
/-! R266 -/
def tPopDir : Template :=
  plainTemplate "POP" 2 .direct [⟨"dst", .aop, .W, [.reg]⟩] "pop word"
/-! R267 -/
def tBmovi : Template :=
  plainTemplate "BMOVI" 3 .direct [⟨"ptrs", .reg, .L, [.reg]⟩, ⟨"cnt", .reg, .W, [.reg]⟩] "interruptible block move words"
/-! R266 -/
def tPopInd : Template :=
  plainTemplate "POP" 2 .indirect [⟨"dst", .aop, .W, [.ind, .indInc]⟩] "pop word"
def tPopIdx : Template :=
  plainTemplate "POP" 3 .indexed [⟨"dst", .aop, .W, [.sidx, .lidx]⟩] "pop word"
/-! R181 -/
def tJnst : Template :=
  plainTemplate "JNST" 2 .relative [⟨"cadd", .cadd, .C, [.cadd]⟩] "jump if sticky bit clear"
/-! R182 -/
def tJnh : Template :=
  plainTemplate "JNH" 2 .relative [⟨"cadd", .cadd, .C, [.cadd]⟩] "jump if not higher"
/-! R183 -/
def tJgt : Template :=
  plainTemplate "JGT" 2 .relative [⟨"cadd", .cadd, .C, [.cadd]⟩] "jump if signed greater than"
/-! R184 -/
def tJnc : Template :=
  plainTemplate "JNC" 2 .relative [⟨"cadd", .cadd, .C, [.cadd]⟩] "jump if carry clear"
/-! R185 -/
def tJnvt : Template :=
  plainTemplate "JNVT" 2 .relative [⟨"cadd", .cadd, .C, [.cadd]⟩] "jump if overflow-trap clear"
/-! R186 -/
def tJnv : Template :=
  plainTemplate "JNV" 2 .relative [⟨"cadd", .cadd, .C, [.cadd]⟩] "jump if overflow clear"
/-! R187 -/
def tJge : Template :=
  plainTemplate "JGE" 2 .relative [⟨"cadd", .cadd, .C, [.cadd]⟩] "jump if signed greater or equal"
/-! R188 -/
def tJne : Template :=
  plainTemplate "JNE" 2 .relative [⟨"cadd", .cadd, .C, [.cadd]⟩] "jump if not equal"
/-! R189 -/
def tJst : Template :=
  plainTemplate "JST" 2 .relative [⟨"cadd", .cadd, .C, [.cadd]⟩] "jump if sticky bit set"
/-! R190 -/
def tJh : Template :=
  plainTemplate "JH" 2 .relative [⟨"cadd", .cadd, .C, [.cadd]⟩] "jump if higher (unsigned)"
/-! R191 -/
def tJle : Template :=
  plainTemplate "JLE" 2 .relative [⟨"cadd", .cadd, .C, [.cadd]⟩] "jump if signed less or equal"
/-! R192 -/
def tJc : Template :=
  plainTemplate "JC" 2 .relative [⟨"cadd", .cadd, .C, [.cadd]⟩] "jump if carry set"
/-! R193 -/
def tJvt : Template :=
  plainTemplate "JVT" 2 .relative [⟨"cadd", .cadd, .C, [.cadd]⟩] "jump if overflow-trap set"
/-! R194 -/
def tJv : Template :=
  plainTemplate "JV" 2 .relative [⟨"cadd", .cadd, .C, [.cadd]⟩] "jump if overflow set"
/-! R195 -/
def tJlt : Template :=
  plainTemplate "JLT" 2 .relative [⟨"cadd", .cadd, .C, [.cadd]⟩] "jump if signed less than"
/-! R196 -/
def tJe : Template :=
  plainTemplate "JE" 2 .relative [⟨"cadd", .cadd, .C, [.cadd]⟩] "jump if equal"
/-! R231 -/
def tDjnz : Template :=
  plainTemplate "DJNZ" 3 .relative [⟨"cnt", .reg, .B, [.reg]⟩, ⟨"cadd", .cadd, .C, [.cadd]⟩] "decrement byte and jump if not zero"
/-! R232 -/
def tDjnzw : Template :=
  plainTemplate "DJNZW" 3 .relative [⟨"cnt", .reg, .W, [.reg]⟩, ⟨"cadd", .cadd, .C, [.cadd]⟩] "decrement word and jump if not zero"
/-! R234 -/
def tTijmp : Template :=
  plainTemplate "TIJMP" 4 .fixed [⟨"tbase", .reg, .W, [.reg]⟩, ⟨"mask", .imm8, .B, [.imm8]⟩, ⟨"index", .ind, .W, [.ind]⟩] "table indirect jump"
/-! R233 -/
def tEbr : Template :=
  plainTemplate "EBR" 2 .extendedIndirect [⟨"ptr", .ptr, .T, [.ind, .eind]⟩] "extended branch indirect (BR when bit 0 clear)"
/-! R235 -/
def tEbmovi : Template :=
  plainTemplate "EBMOVI" 3 .fixed [⟨"ptrs", .reg, .Q, [.reg]⟩, ⟨"cnt", .reg, .W, [.reg]⟩] "extended interruptible block move"
/-! R236 -/
def tEjmp : Template :=
  plainTemplate "EJMP" 4 .extendedRelative [⟨"cadd", .cadd, .X, [.xcadd]⟩] "extended jump"
/-! R237 -/
def tLjmp : Template :=
  plainTemplate "LJMP" 3 .relative [⟨"cadd", .cadd, .C, [.cadd]⟩] "long jump"
/-! R239 -/
def tEldEInd : Template :=
  plainTemplate "ELD" 3 .extendedIndirect [⟨"dst", .reg, .W, [.reg]⟩, ⟨"src", .ptr, .T, [.eind]⟩] "extended load word"
def tEldEIdx : Template :=
  plainTemplate "ELD" 6 .extendedIndexed [⟨"dst", .reg, .W, [.reg]⟩, ⟨"src", .ptr, .T, [.eidx]⟩] "extended load word"
/-! R240 -/
def tEldbEInd : Template :=
  plainTemplate "ELDB" 3 .extendedIndirect [⟨"dst", .reg, .B, [.reg]⟩, ⟨"src", .ptr, .T, [.eind]⟩] "extended load byte"
def tEldbEIdx : Template :=
  plainTemplate "ELDB" 6 .extendedIndexed [⟨"dst", .reg, .B, [.reg]⟩, ⟨"src", .ptr, .T, [.eidx]⟩] "extended load byte"
/-! R241 -/
def tDpts : Template :=
  plainTemplate "DPTS" 1 .inherent [] "disable peripheral transaction server"
/-! R242 -/
def tEpts : Template :=
  plainTemplate "EPTS" 1 .inherent [] "enable peripheral transaction server"
/-! R238 -/
def tLcall : Template :=
  plainTemplate "LCALL" 3 .relative [⟨"cadd", .cadd, .C, [.cadd]⟩] "long call"
/-! R201 -/
def tRet : Template :=
  plainTemplate "RET" 1 .inherent [] "return from subroutine"
/-! R202 -/
def tEcall : Template :=
  plainTemplate "ECALL" 4 .extendedRelative [⟨"cadd", .cadd, .X, [.xcadd]⟩] "extended call"
/-! R203 -/
def tPushf : Template :=
  plainTemplate "PUSHF" 1 .inherent [] "push flags"
/-! R204 -/
def tPopf : Template :=
  plainTemplate "POPF" 1 .inherent [] "pop flags"
/-! R205 -/
def tPusha : Template :=
  plainTemplate "PUSHA" 1 .inherent [] "push all"
/-! R206 -/
def tPopa : Template :=
  plainTemplate "POPA" 1 .inherent [] "pop all"
/-! R207 -/
def tIdlpd : Template :=
  plainTemplate "IDLPD" 2 .fixed [⟨"key", .imm8, .B, [.imm8]⟩] "idle / powerdown"
/-! R208 -/
def tTrap : Template :=
  plainTemplate "TRAP" 1 .inherent [] "software trap"
/-! R209 -/
def tClrc : Template :=
  plainTemplate "CLRC" 1 .inherent [] "clear carry"
/-! R210 -/
def tSetc : Template :=
  plainTemplate "SETC" 1 .inherent [] "set carry"
/-! R211 -/
def tDi : Template :=
  plainTemplate "DI" 1 .inherent [] "disable interrupts"
/-! R212 -/
def tEi : Template :=
  plainTemplate "EI" 1 .inherent [] "enable interrupts"
/-! R213 -/
def tClrvt : Template :=
  plainTemplate "CLRVT" 1 .inherent [] "clear overflow-trap"
/-! R214 -/
def tNop : Template := fillerTemplate "NOP" 1 "no operation"
/-! R215 -/
def tRst : Template :=
  plainTemplate "RST" 1 .inherent [] "reset"
/-! R360 -/
def tMul3Dir : Template :=
  plainTemplate "MUL" 4 .direct [⟨"dst", .reg, .L, [.reg]⟩, ⟨"src1", .reg, .W, [.reg]⟩, ⟨"src2", .aop, .W, [.reg]⟩] "signed multiply words"
def tMul3Imm : Template :=
  plainTemplate "MUL" 5 .immediate [⟨"dst", .reg, .L, [.reg]⟩, ⟨"src1", .reg, .W, [.reg]⟩, ⟨"src2", .aop, .W, [.imm16]⟩] "signed multiply words"
def tMul3Ind : Template :=
  plainTemplate "MUL" 4 .indirect [⟨"dst", .reg, .L, [.reg]⟩, ⟨"src1", .reg, .W, [.reg]⟩, ⟨"src2", .aop, .W, [.ind, .indInc]⟩] "signed multiply words"
def tMul3Idx : Template :=
  plainTemplate "MUL" 5 .indexed [⟨"dst", .reg, .L, [.reg]⟩, ⟨"src1", .reg, .W, [.reg]⟩, ⟨"src2", .aop, .W, [.sidx, .lidx]⟩] "signed multiply words"
/-! R361 -/
def tMulb3Dir : Template :=
  plainTemplate "MULB" 4 .direct [⟨"dst", .reg, .W, [.reg]⟩, ⟨"src1", .reg, .B, [.reg]⟩, ⟨"src2", .aop, .B, [.reg]⟩] "signed multiply bytes"
def tMulb3Imm : Template :=
  plainTemplate "MULB" 4 .immediate [⟨"dst", .reg, .W, [.reg]⟩, ⟨"src1", .reg, .B, [.reg]⟩, ⟨"src2", .aop, .B, [.imm8]⟩] "signed multiply bytes"
def tMulb3Ind : Template :=
  plainTemplate "MULB" 4 .indirect [⟨"dst", .reg, .W, [.reg]⟩, ⟨"src1", .reg, .B, [.reg]⟩, ⟨"src2", .aop, .B, [.ind, .indInc]⟩] "signed multiply bytes"
def tMulb3Idx : Template :=
  plainTemplate "MULB" 5 .indexed [⟨"dst", .reg, .W, [.reg]⟩, ⟨"src1", .reg, .B, [.reg]⟩, ⟨"src2", .aop, .B, [.sidx, .lidx]⟩] "signed multiply bytes"
/-! R362 -/
def tMulDir : Template :=
  plainTemplate "MUL" 3 .direct [⟨"dst", .reg, .L, [.reg]⟩, ⟨"src", .aop, .W, [.reg]⟩] "signed multiply words"
def tMulImm : Template :=
  plainTemplate "MUL" 4 .immediate [⟨"dst", .reg, .L, [.reg]⟩, ⟨"src", .aop, .W, [.imm16]⟩] "signed multiply words"
def tMulInd : Template :=
  plainTemplate "MUL" 3 .indirect [⟨"dst", .reg, .L, [.reg]⟩, ⟨"src", .aop, .W, [.ind, .indInc]⟩] "signed multiply words"
def tMulIdx : Template :=
  plainTemplate "MUL" 4 .indexed [⟨"dst", .reg, .L, [.reg]⟩, ⟨"src", .aop, .W, [.sidx, .lidx]⟩] "signed multiply words"
/-! R363 -/
def tMulbDir : Template :=
  plainTemplate "MULB" 3 .direct [⟨"dst", .reg, .W, [.reg]⟩, ⟨"src", .aop, .B, [.reg]⟩] "signed multiply bytes"
def tMulbImm : Template :=
  plainTemplate "MULB" 3 .immediate [⟨"dst", .reg, .W, [.reg]⟩, ⟨"src", .aop, .B, [.imm8]⟩] "signed multiply bytes"
def tMulbInd : Template :=
  plainTemplate "MULB" 3 .indirect [⟨"dst", .reg, .W, [.reg]⟩, ⟨"src", .aop, .B, [.ind, .indInc]⟩] "signed multiply bytes"
def tMulbIdx : Template :=
  plainTemplate "MULB" 4 .indexed [⟨"dst", .reg, .W, [.reg]⟩, ⟨"src", .aop, .B, [.sidx, .lidx]⟩] "signed multiply bytes"
/-! R364 -/
def tDivDir : Template :=
  plainTemplate "DIV" 3 .direct [⟨"dst", .reg, .L, [.reg]⟩, ⟨"src", .aop, .W, [.reg]⟩] "signed divide long by word"
def tDivImm : Template :=
  plainTemplate "DIV" 4 .immediate [⟨"dst", .reg, .L, [.reg]⟩, ⟨"src", .aop, .W, [.imm16]⟩] "signed divide long by word"
def tDivInd : Template :=
  plainTemplate "DIV" 3 .indirect [⟨"dst", .reg, .L, [.reg]⟩, ⟨"src", .aop, .W, [.ind, .indInc]⟩] "signed divide long by word"
def tDivIdx : Template :=
  plainTemplate "DIV" 4 .indexed [⟨"dst", .reg, .L, [.reg]⟩, ⟨"src", .aop, .W, [.sidx, .lidx]⟩] "signed divide long by word"
/-! R365 -/
def tDivbDir : Template :=
  plainTemplate "DIVB" 3 .direct [⟨"dst", .reg, .W, [.reg]⟩, ⟨"src", .aop, .B, [.reg]⟩] "signed divide word by byte"
def tDivbImm : Template :=
  plainTemplate "DIVB" 3 .immediate [⟨"dst", .reg, .W, [.reg]⟩, ⟨"src", .aop, .B, [.imm8]⟩] "signed divide word by byte"
def tDivbInd : Template :=
  plainTemplate "DIVB" 3 .indirect [⟨"dst", .reg, .W, [.reg]⟩, ⟨"src", .aop, .B, [.ind, .indInc]⟩] "signed divide word by byte"
def tDivbIdx : Template :=
  plainTemplate "DIVB" 4 .indexed [⟨"dst", .reg, .W, [.reg]⟩, ⟨"src", .aop, .B, [.sidx, .lidx]⟩] "signed divide word by byte"

/-- TEMPLATES_U, opcodes 0x00-0x0F (spec/30_encoding.md R75). -/
def unsignedRow0 : List (Byte × Template) :=
  [(0x00, tSkip), (0x01, tClrw), (0x02, tNotw), (0x03, tNegw),
   (0x04, tXchDir), (0x05, tDecw), (0x06, tExt), (0x07, tIncw),
   (0x08, tShrw), (0x09, tShlw), (0x0A, tShraw), (0x0B, tXchIdx),
   (0x0C, tShrl), (0x0D, tShll), (0x0E, tShral), (0x0F, tNorml)]

/-- TEMPLATES_U, opcodes 0x10-0x1F (spec/30_encoding.md R75). -/
def unsignedRow1 : List (Byte × Template) :=
  [(0x11, tClrb), (0x12, tNotb), (0x13, tNegb), (0x14, tXchbDir),
   (0x15, tDecb), (0x16, tExtb), (0x17, tIncb), (0x18, tShrb),
   (0x19, tShlb), (0x1A, tShrab), (0x1B, tXchbIdx), (0x1C, tEstEInd),
   (0x1D, tEstEIdx), (0x1E, tEstbEInd), (0x1F, tEstbEIdx)]

/-- TEMPLATES_U, opcodes 0x20-0x2F (spec/30_encoding.md R75). -/
def unsignedRow2 : List (Byte × Template) :=
  [(0x20, tSjmp), (0x21, tSjmp), (0x22, tSjmp), (0x23, tSjmp),
   (0x24, tSjmp), (0x25, tSjmp), (0x26, tSjmp), (0x27, tSjmp),
   (0x28, tScall), (0x29, tScall), (0x2A, tScall), (0x2B, tScall),
   (0x2C, tScall), (0x2D, tScall), (0x2E, tScall), (0x2F, tScall)]

/-- TEMPLATES_U, opcodes 0x30-0x3F (spec/30_encoding.md R75). -/
def unsignedRow3 : List (Byte × Template) :=
  [(0x30, tJbc), (0x31, tJbc), (0x32, tJbc), (0x33, tJbc),
   (0x34, tJbc), (0x35, tJbc), (0x36, tJbc), (0x37, tJbc),
   (0x38, tJbs), (0x39, tJbs), (0x3A, tJbs), (0x3B, tJbs),
   (0x3C, tJbs), (0x3D, tJbs), (0x3E, tJbs), (0x3F, tJbs)]

/-- TEMPLATES_U, opcodes 0x40-0x4F (spec/30_encoding.md R75). -/
def unsignedRow4 : List (Byte × Template) :=
  [(0x40, tAnd3Dir), (0x41, tAnd3Imm), (0x42, tAnd3Ind), (0x43, tAnd3Idx),
   (0x44, tAdd3Dir), (0x45, tAdd3Imm), (0x46, tAdd3Ind), (0x47, tAdd3Idx),
   (0x48, tSub3Dir), (0x49, tSub3Imm), (0x4A, tSub3Ind), (0x4B, tSub3Idx),
   (0x4C, tMulu3Dir), (0x4D, tMulu3Imm), (0x4E, tMulu3Ind), (0x4F, tMulu3Idx)]

/-- TEMPLATES_U, opcodes 0x50-0x5F (spec/30_encoding.md R75). -/
def unsignedRow5 : List (Byte × Template) :=
  [(0x50, tAndb3Dir), (0x51, tAndb3Imm), (0x52, tAndb3Ind), (0x53, tAndb3Idx),
   (0x54, tAddb3Dir), (0x55, tAddb3Imm), (0x56, tAddb3Ind), (0x57, tAddb3Idx),
   (0x58, tSubb3Dir), (0x59, tSubb3Imm), (0x5A, tSubb3Ind), (0x5B, tSubb3Idx),
   (0x5C, tMulub3Dir), (0x5D, tMulub3Imm), (0x5E, tMulub3Ind), (0x5F, tMulub3Idx)]

/-- TEMPLATES_U, opcodes 0x60-0x6F (spec/30_encoding.md R75). -/
def unsignedRow6 : List (Byte × Template) :=
  [(0x60, tAndDir), (0x61, tAndImm), (0x62, tAndInd), (0x63, tAndIdx),
   (0x64, tAddDir), (0x65, tAddImm), (0x66, tAddInd), (0x67, tAddIdx),
   (0x68, tSubDir), (0x69, tSubImm), (0x6A, tSubInd), (0x6B, tSubIdx),
   (0x6C, tMuluDir), (0x6D, tMuluImm), (0x6E, tMuluInd), (0x6F, tMuluIdx)]

/-- TEMPLATES_U, opcodes 0x70-0x7F (spec/30_encoding.md R75). -/
def unsignedRow7 : List (Byte × Template) :=
  [(0x70, tAndbDir), (0x71, tAndbImm), (0x72, tAndbInd), (0x73, tAndbIdx),
   (0x74, tAddbDir), (0x75, tAddbImm), (0x76, tAddbInd), (0x77, tAddbIdx),
   (0x78, tSubbDir), (0x79, tSubbImm), (0x7A, tSubbInd), (0x7B, tSubbIdx),
   (0x7C, tMulubDir), (0x7D, tMulubImm), (0x7E, tMulubInd), (0x7F, tMulubIdx)]

/-- TEMPLATES_U, opcodes 0x80-0x8F (spec/30_encoding.md R75). -/
def unsignedRow8 : List (Byte × Template) :=
  [(0x80, tOrDir), (0x81, tOrImm), (0x82, tOrInd), (0x83, tOrIdx),
   (0x84, tXorDir), (0x85, tXorImm), (0x86, tXorInd), (0x87, tXorIdx),
   (0x88, tCmpDir), (0x89, tCmpImm), (0x8A, tCmpInd), (0x8B, tCmpIdx),
   (0x8C, tDivuDir), (0x8D, tDivuImm), (0x8E, tDivuInd), (0x8F, tDivuIdx)]

/-- TEMPLATES_U, opcodes 0x90-0x9F (spec/30_encoding.md R75). -/
def unsignedRow9 : List (Byte × Template) :=
  [(0x90, tOrbDir), (0x91, tOrbImm), (0x92, tOrbInd), (0x93, tOrbIdx),
   (0x94, tXorbDir), (0x95, tXorbImm), (0x96, tXorbInd), (0x97, tXorbIdx),
   (0x98, tCmpbDir), (0x99, tCmpbImm), (0x9A, tCmpbInd), (0x9B, tCmpbIdx),
   (0x9C, tDivubDir), (0x9D, tDivubImm), (0x9E, tDivubInd), (0x9F, tDivubIdx)]

/-- TEMPLATES_U, opcodes 0xA0-0xAF (spec/30_encoding.md R75). -/
def unsignedRowA : List (Byte × Template) :=
  [(0xA0, tLdDir), (0xA1, tLdImm), (0xA2, tLdInd), (0xA3, tLdIdx),
   (0xA4, tAddcDir), (0xA5, tAddcImm), (0xA6, tAddcInd), (0xA7, tAddcIdx),
   (0xA8, tSubcDir), (0xA9, tSubcImm), (0xAA, tSubcInd), (0xAB, tSubcIdx),
   (0xAC, tLdbzeDir), (0xAD, tLdbzeImm), (0xAE, tLdbzeInd), (0xAF, tLdbzeIdx)]

/-- TEMPLATES_U, opcodes 0xB0-0xBF (spec/30_encoding.md R75). -/
def unsignedRowB : List (Byte × Template) :=
  [(0xB0, tLdbDir), (0xB1, tLdbImm), (0xB2, tLdbInd), (0xB3, tLdbIdx),
   (0xB4, tAddcbDir), (0xB5, tAddcbImm), (0xB6, tAddcbInd), (0xB7, tAddcbIdx),
   (0xB8, tSubcbDir), (0xB9, tSubcbImm), (0xBA, tSubcbInd), (0xBB, tSubcbIdx),
   (0xBC, tLdbseDir), (0xBD, tLdbseImm), (0xBE, tLdbseInd), (0xBF, tLdbseIdx)]

/-- TEMPLATES_U, opcodes 0xC0-0xCF (spec/30_encoding.md R75). -/
def unsignedRowC : List (Byte × Template) :=
  [(0xC0, tStDir), (0xC1, tBmov), (0xC2, tStInd), (0xC3, tStIdx),
   (0xC4, tStbDir), (0xC5, tCmpl), (0xC6, tStbInd), (0xC7, tStbIdx),
   (0xC8, tPushDir), (0xC9, tPushImm), (0xCA, tPushInd), (0xCB, tPushIdx),
   (0xCC, tPopDir), (0xCD, tBmovi), (0xCE, tPopInd), (0xCF, tPopIdx)]

/-- TEMPLATES_U, opcodes 0xD0-0xDF (spec/30_encoding.md R75). -/
def unsignedRowD : List (Byte × Template) :=
  [(0xD0, tJnst), (0xD1, tJnh), (0xD2, tJgt), (0xD3, tJnc),
   (0xD4, tJnvt), (0xD5, tJnv), (0xD6, tJge), (0xD7, tJne),
   (0xD8, tJst), (0xD9, tJh), (0xDA, tJle), (0xDB, tJc),
   (0xDC, tJvt), (0xDD, tJv), (0xDE, tJlt), (0xDF, tJe)]

/-- TEMPLATES_U, opcodes 0xE0-0xEF (spec/30_encoding.md R75). -/
def unsignedRowE : List (Byte × Template) :=
  [(0xE0, tDjnz), (0xE1, tDjnzw), (0xE2, tTijmp), (0xE3, tEbr),
   (0xE4, tEbmovi), (0xE6, tEjmp), (0xE7, tLjmp), (0xE8, tEldEInd),
   (0xE9, tEldEIdx), (0xEA, tEldbEInd), (0xEB, tEldbEIdx), (0xEC, tDpts),
   (0xED, tEpts), (0xEF, tLcall)]

/-- TEMPLATES_U, opcodes 0xF0-0xFF (spec/30_encoding.md R75). -/
def unsignedRowF : List (Byte × Template) :=
  [(0xF0, tRet), (0xF1, tEcall), (0xF2, tPushf), (0xF3, tPopf),
   (0xF4, tPusha), (0xF5, tPopa), (0xF6, tIdlpd), (0xF7, tTrap),
   (0xF8, tClrc), (0xF9, tSetc), (0xFA, tDi), (0xFB, tEi),
   (0xFC, tClrvt), (0xFD, tNop), (0xFF, tRst)]

/-- TEMPLATES_U by default: 252 entries; 0x10, 0xE5, 0xEE and the prefix 0xFE have none
(spec/30_encoding.md R75, R91). -/
def defaultTemplatesU : List (Byte × Template) :=
  unsignedRow0 ++
  unsignedRow1 ++
  unsignedRow2 ++
  unsignedRow3 ++
  unsignedRow4 ++
  unsignedRow5 ++
  unsignedRow6 ++
  unsignedRow7 ++
  unsignedRow8 ++
  unsignedRow9 ++
  unsignedRowA ++
  unsignedRowB ++
  unsignedRowC ++
  unsignedRowD ++
  unsignedRowE ++
  unsignedRowF

/-- TEMPLATES_S by default: 24 entries (spec/30_encoding.md R76). -/
def defaultTemplatesS : List (Byte × Template) :=
  [(0x4C, tMul3Dir), (0x4D, tMul3Imm), (0x4E, tMul3Ind), (0x4F, tMul3Idx),
   (0x5C, tMulb3Dir), (0x5D, tMulb3Imm), (0x5E, tMulb3Ind), (0x5F, tMulb3Idx),
   (0x6C, tMulDir), (0x6D, tMulImm), (0x6E, tMulInd), (0x6F, tMulIdx),
   (0x7C, tMulbDir), (0x7D, tMulbImm), (0x7E, tMulbInd), (0x7F, tMulbIdx),
   (0x8C, tDivDir), (0x8D, tDivImm), (0x8E, tDivInd), (0x8F, tDivIdx),
   (0x9C, tDivbDir), (0x9D, tDivbImm), (0x9E, tDivbInd), (0x9F, tDivbIdx)]

/-- The default parameters, the third column of spec/00_scope.md R8. REGNAME is plain numeric
formatting: no substitution. -/
def defaultParams : Params where
  signedPrefix := 0xFE
  templatesU := defaultTemplatesU
  templatesS := defaultTemplatesS
  maxLen := 7
  addrW := 24
  extAddrMask := 0x1FFFFF
  extMaskPoint := .target
  indPtrMask := 0xFE
  extPtrMask := 0xFE
  xrefThreshold := 0x02
  signedModeByte := .operand
  regNames := []

/-- The table that the prefix detection selects (spec/30_encoding.md R72). -/
def templateTable (p : Params) (signed : Bool) : List (Byte × Template) :=
  if signed then p.templatesS else p.templatesU

/-- Template lookup, `t <- table[opcode]` (spec/30_encoding.md R73). -/
def lookupTemplate (p : Params) (signed : Bool) (opcode : Byte) : Option Template :=
  (templateTable p signed).lookup opcode

end Sys2Proof.Machine
end

