-- ==== Sys2Proof/Syntax.lean ====
section
/-! DEFINITION. The instructions: one constructor per row of spec/opcode_table.json. The arguments
are the row's operand fields in declared order (spec/30_encoding.md R77-R79): register bytes,
immediates, displacements, and for the indirect and indexed rows the pointer or base byte AS
ENCODED, with its mode bit (bit 0), because which byte holds the mode bit of a signed opcode is a
parameter (R80). A constructor's docstring gives the row's bytes and the rule of its semantics. -/

namespace Sys2Proof

/-- The offset bytes of an indexed operand: one byte (short-indexed) or two (long-indexed)
(spec/30_encoding.md R78, R81). -/
inductive IndexOffset where
  | byte (off : Byte)
  | word (off : Word)
deriving DecidableEq, Repr

/-- One constructor per row of spec/opcode_table.json. -/
inductive Instr where
  /-- R283 `00 xx` (inherent) -/
  | skip (pad : Byte)
  /-- R284 `01 dst` (direct) -/
  | clrw (dst : Byte)
  /-- R285 `02 dst` (direct) -/
  | notw (dst : Byte)
  /-- R286 `03 dst` (direct) -/
  | negw (dst : Byte)
  /-- R287 `04 src dst` (direct) -/
  | xchDir (dst src : Byte)
  /-- R288 `05 dst` (direct) -/
  | decw (dst : Byte)
  /-- R289 `06 dst` (direct) -/
  | ext (dst : Byte)
  /-- R290 `07 dst` (direct) -/
  | incw (dst : Byte)
  /-- R291 `08 cnt dst` (direct) -/
  | shrw (dst cnt : Byte)
  /-- R292 `09 cnt dst` (direct) -/
  | shlw (dst cnt : Byte)
  /-- R293 `0A cnt dst` (direct) -/
  | shraw (dst cnt : Byte)
  /-- R287 `0B base|L off[lo (hi)] dst` (indexed) -/
  | xchIdx (dst base : Byte) (off : IndexOffset)
  /-- R294 `0C cnt dst` (direct) -/
  | shrl (dst cnt : Byte)
  /-- R295 `0D cnt dst` (direct) -/
  | shll (dst cnt : Byte)
  /-- R296 `0E cnt dst` (direct) -/
  | shral (dst cnt : Byte)
  /-- R297 `0F cnt dst` (direct) -/
  | norml (dst cnt : Byte)
  /-- R298 `11 dst` (direct) -/
  | clrb (dst : Byte)
  /-- R299 `12 dst` (direct) -/
  | notb (dst : Byte)
  /-- R300 `13 dst` (direct) -/
  | negb (dst : Byte)
  /-- R301 `14 src dst` (direct) -/
  | xchbDir (dst src : Byte)
  /-- R302 `15 dst` (direct) -/
  | decb (dst : Byte)
  /-- R303 `16 dst` (direct) -/
  | extb (dst : Byte)
  /-- R304 `17 dst` (direct) -/
  | incb (dst : Byte)
  /-- R305 `18 cnt dst` (direct) -/
  | shrb (dst cnt : Byte)
  /-- R306 `19 cnt dst` (direct) -/
  | shlb (dst cnt : Byte)
  /-- R307 `1A cnt dst` (direct) -/
  | shrab (dst cnt : Byte)
  /-- R301 `1B base|L off[lo (hi)] dst` (indexed) -/
  | xchbIdx (dst base : Byte) (off : IndexOffset)
  /-- R308 `1C ptr src` (extended-indirect) -/
  | estEInd (src ptr : Byte)
  /-- R308 `1D ptr d0 d1 d2 src` (extended-indexed) -/
  | estEIdx (src ptr : Byte) (disp : BitVec 24)
  /-- R309 `1E ptr src` (extended-indirect) -/
  | estbEInd (src ptr : Byte)
  /-- R309 `1F ptr d0 d1 d2 src` (extended-indexed) -/
  | estbEIdx (src ptr : Byte) (disp : BitVec 24)
  /-- R161 `0010_0hhh lo` (relative) -/
  | sjmp (disp : BitVec 11)
  /-- R162 `0010_1hhh lo` (relative) -/
  | scall (disp : BitVec 11)
  /-- R171 `0011_0bbb reg disp8` (relative) -/
  | jbc (bitno : BitVec 3) (reg disp : Byte)
  /-- R172 `0011_1bbb reg disp8` (relative) -/
  | jbs (bitno : BitVec 3) (reg disp : Byte)
  /-- R321 `40 src src1 dst` (direct) -/
  | and3Dir (dst src1 src2 : Byte)
  /-- R321 `41 lo hi src1 dst` (immediate) -/
  | and3Imm (dst src1 : Byte) (imm : Word)
  /-- R321 `42 ptr|A src1 dst` (indirect) -/
  | and3Ind (dst src1 ptr : Byte)
  /-- R321 `43 base|L off[lo (hi)] src1 dst` (indexed) -/
  | and3Idx (dst src1 base : Byte) (off : IndexOffset)
  /-- R322 `44 src src1 dst` (direct) -/
  | add3Dir (dst src1 src2 : Byte)
  /-- R322 `45 lo hi src1 dst` (immediate) -/
  | add3Imm (dst src1 : Byte) (imm : Word)
  /-- R322 `46 ptr|A src1 dst` (indirect) -/
  | add3Ind (dst src1 ptr : Byte)
  /-- R322 `47 base|L off[lo (hi)] src1 dst` (indexed) -/
  | add3Idx (dst src1 base : Byte) (off : IndexOffset)
  /-- R323 `48 src src1 dst` (direct) -/
  | sub3Dir (dst src1 src2 : Byte)
  /-- R323 `49 lo hi src1 dst` (immediate) -/
  | sub3Imm (dst src1 : Byte) (imm : Word)
  /-- R323 `4A ptr|A src1 dst` (indirect) -/
  | sub3Ind (dst src1 ptr : Byte)
  /-- R323 `4B base|L off[lo (hi)] src1 dst` (indexed) -/
  | sub3Idx (dst src1 base : Byte) (off : IndexOffset)
  /-- R324 `4C src src1 dst` (direct) -/
  | mulu3Dir (dst src1 src2 : Byte)
  /-- R324 `4D lo hi src1 dst` (immediate) -/
  | mulu3Imm (dst src1 : Byte) (imm : Word)
  /-- R324 `4E ptr|A src1 dst` (indirect) -/
  | mulu3Ind (dst src1 ptr : Byte)
  /-- R324 `4F base|L off[lo (hi)] src1 dst` (indexed) -/
  | mulu3Idx (dst src1 base : Byte) (off : IndexOffset)
  /-- R325 `50 src src1 dst` (direct) -/
  | andb3Dir (dst src1 src2 : Byte)
  /-- R325 `51 imm src1 dst` (immediate) -/
  | andb3Imm (dst src1 imm : Byte)
  /-- R325 `52 ptr|A src1 dst` (indirect) -/
  | andb3Ind (dst src1 ptr : Byte)
  /-- R325 `53 base|L off[lo (hi)] src1 dst` (indexed) -/
  | andb3Idx (dst src1 base : Byte) (off : IndexOffset)
  /-- R326 `54 src src1 dst` (direct) -/
  | addb3Dir (dst src1 src2 : Byte)
  /-- R326 `55 imm src1 dst` (immediate) -/
  | addb3Imm (dst src1 imm : Byte)
  /-- R326 `56 ptr|A src1 dst` (indirect) -/
  | addb3Ind (dst src1 ptr : Byte)
  /-- R326 `57 base|L off[lo (hi)] src1 dst` (indexed) -/
  | addb3Idx (dst src1 base : Byte) (off : IndexOffset)
  /-- R327 `58 src src1 dst` (direct) -/
  | subb3Dir (dst src1 src2 : Byte)
  /-- R327 `59 imm src1 dst` (immediate) -/
  | subb3Imm (dst src1 imm : Byte)
  /-- R327 `5A ptr|A src1 dst` (indirect) -/
  | subb3Ind (dst src1 ptr : Byte)
  /-- R327 `5B base|L off[lo (hi)] src1 dst` (indexed) -/
  | subb3Idx (dst src1 base : Byte) (off : IndexOffset)
  /-- R328 `5C src src1 dst` (direct) -/
  | mulub3Dir (dst src1 src2 : Byte)
  /-- R328 `5D imm src1 dst` (immediate) -/
  | mulub3Imm (dst src1 imm : Byte)
  /-- R328 `5E ptr|A src1 dst` (indirect) -/
  | mulub3Ind (dst src1 ptr : Byte)
  /-- R328 `5F base|L off[lo (hi)] src1 dst` (indexed) -/
  | mulub3Idx (dst src1 base : Byte) (off : IndexOffset)
  /-- R329 `60 src dst` (direct) -/
  | andDir (dst src : Byte)
  /-- R329 `61 lo hi dst` (immediate) -/
  | andImm (dst : Byte) (imm : Word)
  /-- R329 `62 ptr|A dst` (indirect) -/
  | andInd (dst ptr : Byte)
  /-- R329 `63 base|L off[lo (hi)] dst` (indexed) -/
  | andIdx (dst base : Byte) (off : IndexOffset)
  /-- R330 `64 src dst` (direct) -/
  | addDir (dst src : Byte)
  /-- R330 `65 lo hi dst` (immediate) -/
  | addImm (dst : Byte) (imm : Word)
  /-- R330 `66 ptr|A dst` (indirect) -/
  | addInd (dst ptr : Byte)
  /-- R330 `67 base|L off[lo (hi)] dst` (indexed) -/
  | addIdx (dst base : Byte) (off : IndexOffset)
  /-- R331 `68 src dst` (direct) -/
  | subDir (dst src : Byte)
  /-- R331 `69 lo hi dst` (immediate) -/
  | subImm (dst : Byte) (imm : Word)
  /-- R331 `6A ptr|A dst` (indirect) -/
  | subInd (dst ptr : Byte)
  /-- R331 `6B base|L off[lo (hi)] dst` (indexed) -/
  | subIdx (dst base : Byte) (off : IndexOffset)
  /-- R332 `6C src dst` (direct) -/
  | muluDir (dst src : Byte)
  /-- R332 `6D lo hi dst` (immediate) -/
  | muluImm (dst : Byte) (imm : Word)
  /-- R332 `6E ptr|A dst` (indirect) -/
  | muluInd (dst ptr : Byte)
  /-- R332 `6F base|L off[lo (hi)] dst` (indexed) -/
  | muluIdx (dst base : Byte) (off : IndexOffset)
  /-- R333 `70 src dst` (direct) -/
  | andbDir (dst src : Byte)
  /-- R333 `71 imm dst` (immediate) -/
  | andbImm (dst imm : Byte)
  /-- R333 `72 ptr|A dst` (indirect) -/
  | andbInd (dst ptr : Byte)
  /-- R333 `73 base|L off[lo (hi)] dst` (indexed) -/
  | andbIdx (dst base : Byte) (off : IndexOffset)
  /-- R334 `74 src dst` (direct) -/
  | addbDir (dst src : Byte)
  /-- R334 `75 imm dst` (immediate) -/
  | addbImm (dst imm : Byte)
  /-- R334 `76 ptr|A dst` (indirect) -/
  | addbInd (dst ptr : Byte)
  /-- R334 `77 base|L off[lo (hi)] dst` (indexed) -/
  | addbIdx (dst base : Byte) (off : IndexOffset)
  /-- R335 `78 src dst` (direct) -/
  | subbDir (dst src : Byte)
  /-- R335 `79 imm dst` (immediate) -/
  | subbImm (dst imm : Byte)
  /-- R335 `7A ptr|A dst` (indirect) -/
  | subbInd (dst ptr : Byte)
  /-- R335 `7B base|L off[lo (hi)] dst` (indexed) -/
  | subbIdx (dst base : Byte) (off : IndexOffset)
  /-- R336 `7C src dst` (direct) -/
  | mulubDir (dst src : Byte)
  /-- R336 `7D imm dst` (immediate) -/
  | mulubImm (dst imm : Byte)
  /-- R336 `7E ptr|A dst` (indirect) -/
  | mulubInd (dst ptr : Byte)
  /-- R336 `7F base|L off[lo (hi)] dst` (indexed) -/
  | mulubIdx (dst base : Byte) (off : IndexOffset)
  /-- R337 `80 src dst` (direct) -/
  | orDir (dst src : Byte)
  /-- R337 `81 lo hi dst` (immediate) -/
  | orImm (dst : Byte) (imm : Word)
  /-- R337 `82 ptr|A dst` (indirect) -/
  | orInd (dst ptr : Byte)
  /-- R337 `83 base|L off[lo (hi)] dst` (indexed) -/
  | orIdx (dst base : Byte) (off : IndexOffset)
  /-- R338 `84 src dst` (direct) -/
  | xorDir (dst src : Byte)
  /-- R338 `85 lo hi dst` (immediate) -/
  | xorImm (dst : Byte) (imm : Word)
  /-- R338 `86 ptr|A dst` (indirect) -/
  | xorInd (dst ptr : Byte)
  /-- R338 `87 base|L off[lo (hi)] dst` (indexed) -/
  | xorIdx (dst base : Byte) (off : IndexOffset)
  /-- R339 `88 src dst` (direct) -/
  | cmpDir (dst src : Byte)
  /-- R339 `89 lo hi dst` (immediate) -/
  | cmpImm (dst : Byte) (imm : Word)
  /-- R339 `8A ptr|A dst` (indirect) -/
  | cmpInd (dst ptr : Byte)
  /-- R339 `8B base|L off[lo (hi)] dst` (indexed) -/
  | cmpIdx (dst base : Byte) (off : IndexOffset)
  /-- R340 `8C src dst` (direct) -/
  | divuDir (dst src : Byte)
  /-- R340 `8D lo hi dst` (immediate) -/
  | divuImm (dst : Byte) (imm : Word)
  /-- R340 `8E ptr|A dst` (indirect) -/
  | divuInd (dst ptr : Byte)
  /-- R340 `8F base|L off[lo (hi)] dst` (indexed) -/
  | divuIdx (dst base : Byte) (off : IndexOffset)
  /-- R341 `90 src dst` (direct) -/
  | orbDir (dst src : Byte)
  /-- R341 `91 imm dst` (immediate) -/
  | orbImm (dst imm : Byte)
  /-- R341 `92 ptr|A dst` (indirect) -/
  | orbInd (dst ptr : Byte)
  /-- R341 `93 base|L off[lo (hi)] dst` (indexed) -/
  | orbIdx (dst base : Byte) (off : IndexOffset)
  /-- R342 `94 src dst` (direct) -/
  | xorbDir (dst src : Byte)
  /-- R342 `95 imm dst` (immediate) -/
  | xorbImm (dst imm : Byte)
  /-- R342 `96 ptr|A dst` (indirect) -/
  | xorbInd (dst ptr : Byte)
  /-- R342 `97 base|L off[lo (hi)] dst` (indexed) -/
  | xorbIdx (dst base : Byte) (off : IndexOffset)
  /-- R343 `98 src dst` (direct) -/
  | cmpbDir (dst src : Byte)
  /-- R343 `99 imm dst` (immediate) -/
  | cmpbImm (dst imm : Byte)
  /-- R343 `9A ptr|A dst` (indirect) -/
  | cmpbInd (dst ptr : Byte)
  /-- R343 `9B base|L off[lo (hi)] dst` (indexed) -/
  | cmpbIdx (dst base : Byte) (off : IndexOffset)
  /-- R344 `9C src dst` (direct) -/
  | divubDir (dst src : Byte)
  /-- R344 `9D imm dst` (immediate) -/
  | divubImm (dst imm : Byte)
  /-- R344 `9E ptr|A dst` (indirect) -/
  | divubInd (dst ptr : Byte)
  /-- R344 `9F base|L off[lo (hi)] dst` (indexed) -/
  | divubIdx (dst base : Byte) (off : IndexOffset)
  /-- R345 `A0 src dst` (direct) -/
  | ldDir (dst src : Byte)
  /-- R345 `A1 lo hi dst` (immediate) -/
  | ldImm (dst : Byte) (imm : Word)
  /-- R345 `A2 ptr|A dst` (indirect) -/
  | ldInd (dst ptr : Byte)
  /-- R345 `A3 base|L off[lo (hi)] dst` (indexed) -/
  | ldIdx (dst base : Byte) (off : IndexOffset)
  /-- R346 `A4 src dst` (direct) -/
  | addcDir (dst src : Byte)
  /-- R346 `A5 lo hi dst` (immediate) -/
  | addcImm (dst : Byte) (imm : Word)
  /-- R346 `A6 ptr|A dst` (indirect) -/
  | addcInd (dst ptr : Byte)
  /-- R346 `A7 base|L off[lo (hi)] dst` (indexed) -/
  | addcIdx (dst base : Byte) (off : IndexOffset)
  /-- R347 `A8 src dst` (direct) -/
  | subcDir (dst src : Byte)
  /-- R347 `A9 lo hi dst` (immediate) -/
  | subcImm (dst : Byte) (imm : Word)
  /-- R347 `AA ptr|A dst` (indirect) -/
  | subcInd (dst ptr : Byte)
  /-- R347 `AB base|L off[lo (hi)] dst` (indexed) -/
  | subcIdx (dst base : Byte) (off : IndexOffset)
  /-- R348 `AC src dst` (direct) -/
  | ldbzeDir (dst src : Byte)
  /-- R348 `AD imm dst` (immediate) -/
  | ldbzeImm (dst imm : Byte)
  /-- R348 `AE ptr|A dst` (indirect) -/
  | ldbzeInd (dst ptr : Byte)
  /-- R348 `AF base|L off[lo (hi)] dst` (indexed) -/
  | ldbzeIdx (dst base : Byte) (off : IndexOffset)
  /-- R349 `B0 src dst` (direct) -/
  | ldbDir (dst src : Byte)
  /-- R349 `B1 imm dst` (immediate) -/
  | ldbImm (dst imm : Byte)
  /-- R349 `B2 ptr|A dst` (indirect) -/
  | ldbInd (dst ptr : Byte)
  /-- R349 `B3 base|L off[lo (hi)] dst` (indexed) -/
  | ldbIdx (dst base : Byte) (off : IndexOffset)
  /-- R350 `B4 src dst` (direct) -/
  | addcbDir (dst src : Byte)
  /-- R350 `B5 imm dst` (immediate) -/
  | addcbImm (dst imm : Byte)
  /-- R350 `B6 ptr|A dst` (indirect) -/
  | addcbInd (dst ptr : Byte)
  /-- R350 `B7 base|L off[lo (hi)] dst` (indexed) -/
  | addcbIdx (dst base : Byte) (off : IndexOffset)
  /-- R351 `B8 src dst` (direct) -/
  | subcbDir (dst src : Byte)
  /-- R351 `B9 imm dst` (immediate) -/
  | subcbImm (dst imm : Byte)
  /-- R351 `BA ptr|A dst` (indirect) -/
  | subcbInd (dst ptr : Byte)
  /-- R351 `BB base|L off[lo (hi)] dst` (indexed) -/
  | subcbIdx (dst base : Byte) (off : IndexOffset)
  /-- R352 `BC src dst` (direct) -/
  | ldbseDir (dst src : Byte)
  /-- R352 `BD imm dst` (immediate) -/
  | ldbseImm (dst imm : Byte)
  /-- R352 `BE ptr|A dst` (indirect) -/
  | ldbseInd (dst ptr : Byte)
  /-- R352 `BF base|L off[lo (hi)] dst` (indexed) -/
  | ldbseIdx (dst base : Byte) (off : IndexOffset)
  /-- R261 `C0 dst src` (direct) -/
  | stDir (src dst : Byte)
  /-- R262 `C1 cnt ptrs` (direct) -/
  | bmov (ptrs cnt : Byte)
  /-- R261 `C2 ptr|A src` (indirect) -/
  | stInd (src ptr : Byte)
  /-- R261 `C3 base|L off[lo (hi)] src` (indexed) -/
  | stIdx (src base : Byte) (off : IndexOffset)
  /-- R263 `C4 dst src` (direct) -/
  | stbDir (src dst : Byte)
  /-- R264 `C5 src dst` (direct) -/
  | cmpl (dst src : Byte)
  /-- R263 `C6 ptr|A src` (indirect) -/
  | stbInd (src ptr : Byte)
  /-- R263 `C7 base|L off[lo (hi)] src` (indexed) -/
  | stbIdx (src base : Byte) (off : IndexOffset)
  /-- R265 `C8 src` (direct) -/
  | pushDir (src : Byte)
  /-- R265 `C9 lo hi` (immediate) -/
  | pushImm (imm : Word)
  /-- R265 `CA ptr|A` (indirect) -/
  | pushInd (ptr : Byte)
  /-- R265 `CB base|L off[lo (hi)]` (indexed) -/
  | pushIdx (base : Byte) (off : IndexOffset)
  /-- R266 `CC dst` (direct) -/
  | popDir (dst : Byte)
  /-- R267 `CD cnt ptrs` (direct) -/
  | bmovi (ptrs cnt : Byte)
  /-- R266 `CE ptr|A` (indirect) -/
  | popInd (ptr : Byte)
  /-- R266 `CF base|L off[lo (hi)]` (indexed) -/
  | popIdx (base : Byte) (off : IndexOffset)
  /-- R181 `D0 disp8` (relative) -/
  | jnst (disp : Byte)
  /-- R182 `D1 disp8` (relative) -/
  | jnh (disp : Byte)
  /-- R183 `D2 disp8` (relative) -/
  | jgt (disp : Byte)
  /-- R184 `D3 disp8` (relative) -/
  | jnc (disp : Byte)
  /-- R185 `D4 disp8` (relative) -/
  | jnvt (disp : Byte)
  /-- R186 `D5 disp8` (relative) -/
  | jnv (disp : Byte)
  /-- R187 `D6 disp8` (relative) -/
  | jge (disp : Byte)
  /-- R188 `D7 disp8` (relative) -/
  | jne (disp : Byte)
  /-- R189 `D8 disp8` (relative) -/
  | jst (disp : Byte)
  /-- R190 `D9 disp8` (relative) -/
  | jh (disp : Byte)
  /-- R191 `DA disp8` (relative) -/
  | jle (disp : Byte)
  /-- R192 `DB disp8` (relative) -/
  | jc (disp : Byte)
  /-- R193 `DC disp8` (relative) -/
  | jvt (disp : Byte)
  /-- R194 `DD disp8` (relative) -/
  | jv (disp : Byte)
  /-- R195 `DE disp8` (relative) -/
  | jlt (disp : Byte)
  /-- R196 `DF disp8` (relative) -/
  | je (disp : Byte)
  /-- R231 `E0 cnt disp8` (relative) -/
  | djnz (cnt disp : Byte)
  /-- R232 `E1 cnt disp8` (relative) -/
  | djnzw (cnt disp : Byte)
  /-- R234 `E2 index mask tbase` (fixed) -/
  | tijmp (tbase mask index : Byte)
  /-- R233 `E3 ptr|E` (extended-indirect) -/
  | ebr (ptr : Byte)
  /-- R235 `E4 cnt ptrs` (fixed) -/
  | ebmovi (ptrs cnt : Byte)
  /-- R236 `E6 d0 d1 d2` (extended-relative) -/
  | ejmp (disp : BitVec 24)
  /-- R237 `E7 lo hi` (relative) -/
  | ljmp (disp : Word)
  /-- R239 `E8 ptr dst` (extended-indirect) -/
  | eldEInd (dst ptr : Byte)
  /-- R239 `E9 ptr d0 d1 d2 dst` (extended-indexed) -/
  | eldEIdx (dst ptr : Byte) (disp : BitVec 24)
  /-- R240 `EA ptr dst` (extended-indirect) -/
  | eldbEInd (dst ptr : Byte)
  /-- R240 `EB ptr d0 d1 d2 dst` (extended-indexed) -/
  | eldbEIdx (dst ptr : Byte) (disp : BitVec 24)
  /-- R238 `EF lo hi` (relative) -/
  | lcall (disp : Word)
  /-- R202 `F1 d0 d1 d2` (extended-relative) -/
  | ecall (disp : BitVec 24)
  /-- R207 `F6 key` (fixed) -/
  | idlpd (key : Byte)
  /-- R360 `FE 4C src src1 dst` (direct) -/
  | mul3Dir (dst src1 src2 : Byte)
  /-- R360 `FE 4D lo hi src1 dst` (immediate) -/
  | mul3Imm (dst src1 : Byte) (imm : Word)
  /-- R360 `FE 4E ptr|A src1 dst` (indirect) -/
  | mul3Ind (dst src1 ptr : Byte)
  /-- R360 `FE 4F base|L off[lo (hi)] src1 dst` (indexed) -/
  | mul3Idx (dst src1 base : Byte) (off : IndexOffset)
  /-- R361 `FE 5C src src1 dst` (direct) -/
  | mulb3Dir (dst src1 src2 : Byte)
  /-- R361 `FE 5D imm src1 dst` (immediate) -/
  | mulb3Imm (dst src1 imm : Byte)
  /-- R361 `FE 5E ptr|A src1 dst` (indirect) -/
  | mulb3Ind (dst src1 ptr : Byte)
  /-- R361 `FE 5F base|L off[lo (hi)] src1 dst` (indexed) -/
  | mulb3Idx (dst src1 base : Byte) (off : IndexOffset)
  /-- R362 `FE 6C src dst` (direct) -/
  | mulDir (dst src : Byte)
  /-- R362 `FE 6D lo hi dst` (immediate) -/
  | mulImm (dst : Byte) (imm : Word)
  /-- R362 `FE 6E ptr|A dst` (indirect) -/
  | mulInd (dst ptr : Byte)
  /-- R362 `FE 6F base|L off[lo (hi)] dst` (indexed) -/
  | mulIdx (dst base : Byte) (off : IndexOffset)
  /-- R363 `FE 7C src dst` (direct) -/
  | mulbDir (dst src : Byte)
  /-- R363 `FE 7D imm dst` (immediate) -/
  | mulbImm (dst imm : Byte)
  /-- R363 `FE 7E ptr|A dst` (indirect) -/
  | mulbInd (dst ptr : Byte)
  /-- R363 `FE 7F base|L off[lo (hi)] dst` (indexed) -/
  | mulbIdx (dst base : Byte) (off : IndexOffset)
  /-- R364 `FE 8C src dst` (direct) -/
  | divDir (dst src : Byte)
  /-- R364 `FE 8D lo hi dst` (immediate) -/
  | divImm (dst : Byte) (imm : Word)
  /-- R364 `FE 8E ptr|A dst` (indirect) -/
  | divInd (dst ptr : Byte)
  /-- R364 `FE 8F base|L off[lo (hi)] dst` (indexed) -/
  | divIdx (dst base : Byte) (off : IndexOffset)
  /-- R365 `FE 9C src dst` (direct) -/
  | divbDir (dst src : Byte)
  /-- R365 `FE 9D imm dst` (immediate) -/
  | divbImm (dst imm : Byte)
  /-- R365 `FE 9E ptr|A dst` (indirect) -/
  | divbInd (dst ptr : Byte)
  /-- R365 `FE 9F base|L off[lo (hi)] dst` (indexed) -/
  | divbIdx (dst base : Byte) (off : IndexOffset)
  /-- R241 `EC` (inherent) -/
  | dpts
  /-- R242 `ED` (inherent) -/
  | epts
  /-- R201 `F0` (inherent) -/
  | ret
  /-- R203 `F2` (inherent) -/
  | pushf
  /-- R204 `F3` (inherent) -/
  | popf
  /-- R205 `F4` (inherent) -/
  | pusha
  /-- R206 `F5` (inherent) -/
  | popa
  /-- R208 `F7` (inherent) -/
  | trap
  /-- R209 `F8` (inherent) -/
  | clrc
  /-- R210 `F9` (inherent) -/
  | setc
  /-- R211 `FA` (inherent) -/
  | di
  /-- R212 `FB` (inherent) -/
  | ei
  /-- R213 `FC` (inherent) -/
  | clrvt
  /-- R214 `FD` (inherent) -/
  | nop
  /-- R215 `FF` (inherent) -/
  | rst
deriving DecidableEq, Repr

end Sys2Proof
end

