-- ==== Sys2Proof/WellFormed.lean ====
section
/-! DEFINITION. Which instruction terms are the decoding of some bytes: an indexed instruction's
offset has the width its mode byte selects (spec/30_encoding.md R80, R81). Every other argument may
hold any value. -/

namespace Sys2Proof

/-- The offset has two bytes exactly when the mode bit selects long-indexed (R81). -/
def IndexOffset.fits (long : Bool) : IndexOffset → Bool
  | .byte _ => !long
  | .word _ => long

/-- The mode bit of an unsigned indexed instruction is bit 0 of its base byte (R80, R81). -/
def indexFits (base : Byte) (off : IndexOffset) : Bool :=
  off.fits (Machine.bit0 base)

/-- The mode bit of a signed indexed instruction: bit 0 of its base byte under
`SIGNED_MODE_BYTE = operand`; under `literal`, bit 0 of the opcode, which is 1 on every signed
indexed opcode, so that it is always long-indexed (spec/49_middle_group_signed.md R359). -/
def signedIndexFits (p : Params) (base : Byte) (off : IndexOffset) : Bool :=
  match p.signedModeByte with
  | .operand => off.fits (Machine.bit0 base)
  | .literal => off.fits true

/-- Well-formed under the parameters `p`. -/
def Instr.wf (p : Params) : Instr → Bool
  | .skip _ => true
  | .clrw _ => true
  | .notw _ => true
  | .negw _ => true
  | .xchDir _ _ => true
  | .decw _ => true
  | .ext _ => true
  | .incw _ => true
  | .shrw _ _ => true
  | .shlw _ _ => true
  | .shraw _ _ => true
  | .xchIdx _ base off => indexFits base off
  | .shrl _ _ => true
  | .shll _ _ => true
  | .shral _ _ => true
  | .norml _ _ => true
  | .clrb _ => true
  | .notb _ => true
  | .negb _ => true
  | .xchbDir _ _ => true
  | .decb _ => true
  | .extb _ => true
  | .incb _ => true
  | .shrb _ _ => true
  | .shlb _ _ => true
  | .shrab _ _ => true
  | .xchbIdx _ base off => indexFits base off
  | .estEInd _ _ => true
  | .estEIdx _ _ _ => true
  | .estbEInd _ _ => true
  | .estbEIdx _ _ _ => true
  | .sjmp _ => true
  | .scall _ => true
  | .jbc _ _ _ => true
  | .jbs _ _ _ => true
  | .and3Dir _ _ _ => true
  | .and3Imm _ _ _ => true
  | .and3Ind _ _ _ => true
  | .and3Idx _ _ base off => indexFits base off
  | .add3Dir _ _ _ => true
  | .add3Imm _ _ _ => true
  | .add3Ind _ _ _ => true
  | .add3Idx _ _ base off => indexFits base off
  | .sub3Dir _ _ _ => true
  | .sub3Imm _ _ _ => true
  | .sub3Ind _ _ _ => true
  | .sub3Idx _ _ base off => indexFits base off
  | .mulu3Dir _ _ _ => true
  | .mulu3Imm _ _ _ => true
  | .mulu3Ind _ _ _ => true
  | .mulu3Idx _ _ base off => indexFits base off
  | .andb3Dir _ _ _ => true
  | .andb3Imm _ _ _ => true
  | .andb3Ind _ _ _ => true
  | .andb3Idx _ _ base off => indexFits base off
  | .addb3Dir _ _ _ => true
  | .addb3Imm _ _ _ => true
  | .addb3Ind _ _ _ => true
  | .addb3Idx _ _ base off => indexFits base off
  | .subb3Dir _ _ _ => true
  | .subb3Imm _ _ _ => true
  | .subb3Ind _ _ _ => true
  | .subb3Idx _ _ base off => indexFits base off
  | .mulub3Dir _ _ _ => true
  | .mulub3Imm _ _ _ => true
  | .mulub3Ind _ _ _ => true
  | .mulub3Idx _ _ base off => indexFits base off
  | .andDir _ _ => true
  | .andImm _ _ => true
  | .andInd _ _ => true
  | .andIdx _ base off => indexFits base off
  | .addDir _ _ => true
  | .addImm _ _ => true
  | .addInd _ _ => true
  | .addIdx _ base off => indexFits base off
  | .subDir _ _ => true
  | .subImm _ _ => true
  | .subInd _ _ => true
  | .subIdx _ base off => indexFits base off
  | .muluDir _ _ => true
  | .muluImm _ _ => true
  | .muluInd _ _ => true
  | .muluIdx _ base off => indexFits base off
  | .andbDir _ _ => true
  | .andbImm _ _ => true
  | .andbInd _ _ => true
  | .andbIdx _ base off => indexFits base off
  | .addbDir _ _ => true
  | .addbImm _ _ => true
  | .addbInd _ _ => true
  | .addbIdx _ base off => indexFits base off
  | .subbDir _ _ => true
  | .subbImm _ _ => true
  | .subbInd _ _ => true
  | .subbIdx _ base off => indexFits base off
  | .mulubDir _ _ => true
  | .mulubImm _ _ => true
  | .mulubInd _ _ => true
  | .mulubIdx _ base off => indexFits base off
  | .orDir _ _ => true
  | .orImm _ _ => true
  | .orInd _ _ => true
  | .orIdx _ base off => indexFits base off
  | .xorDir _ _ => true
  | .xorImm _ _ => true
  | .xorInd _ _ => true
  | .xorIdx _ base off => indexFits base off
  | .cmpDir _ _ => true
  | .cmpImm _ _ => true
  | .cmpInd _ _ => true
  | .cmpIdx _ base off => indexFits base off
  | .divuDir _ _ => true
  | .divuImm _ _ => true
  | .divuInd _ _ => true
  | .divuIdx _ base off => indexFits base off
  | .orbDir _ _ => true
  | .orbImm _ _ => true
  | .orbInd _ _ => true
  | .orbIdx _ base off => indexFits base off
  | .xorbDir _ _ => true
  | .xorbImm _ _ => true
  | .xorbInd _ _ => true
  | .xorbIdx _ base off => indexFits base off
  | .cmpbDir _ _ => true
  | .cmpbImm _ _ => true
  | .cmpbInd _ _ => true
  | .cmpbIdx _ base off => indexFits base off
  | .divubDir _ _ => true
  | .divubImm _ _ => true
  | .divubInd _ _ => true
  | .divubIdx _ base off => indexFits base off
  | .ldDir _ _ => true
  | .ldImm _ _ => true
  | .ldInd _ _ => true
  | .ldIdx _ base off => indexFits base off
  | .addcDir _ _ => true
  | .addcImm _ _ => true
  | .addcInd _ _ => true
  | .addcIdx _ base off => indexFits base off
  | .subcDir _ _ => true
  | .subcImm _ _ => true
  | .subcInd _ _ => true
  | .subcIdx _ base off => indexFits base off
  | .ldbzeDir _ _ => true
  | .ldbzeImm _ _ => true
  | .ldbzeInd _ _ => true
  | .ldbzeIdx _ base off => indexFits base off
  | .ldbDir _ _ => true
  | .ldbImm _ _ => true
  | .ldbInd _ _ => true
  | .ldbIdx _ base off => indexFits base off
  | .addcbDir _ _ => true
  | .addcbImm _ _ => true
  | .addcbInd _ _ => true
  | .addcbIdx _ base off => indexFits base off
  | .subcbDir _ _ => true
  | .subcbImm _ _ => true
  | .subcbInd _ _ => true
  | .subcbIdx _ base off => indexFits base off
  | .ldbseDir _ _ => true
  | .ldbseImm _ _ => true
  | .ldbseInd _ _ => true
  | .ldbseIdx _ base off => indexFits base off
  | .stDir _ _ => true
  | .bmov _ _ => true
  | .stInd _ _ => true
  | .stIdx _ base off => indexFits base off
  | .stbDir _ _ => true
  | .cmpl _ _ => true
  | .stbInd _ _ => true
  | .stbIdx _ base off => indexFits base off
  | .pushDir _ => true
  | .pushImm _ => true
  | .pushInd _ => true
  | .pushIdx base off => indexFits base off
  | .popDir _ => true
  | .bmovi _ _ => true
  | .popInd _ => true
  | .popIdx base off => indexFits base off
  | .jnst _ => true
  | .jnh _ => true
  | .jgt _ => true
  | .jnc _ => true
  | .jnvt _ => true
  | .jnv _ => true
  | .jge _ => true
  | .jne _ => true
  | .jst _ => true
  | .jh _ => true
  | .jle _ => true
  | .jc _ => true
  | .jvt _ => true
  | .jv _ => true
  | .jlt _ => true
  | .je _ => true
  | .djnz _ _ => true
  | .djnzw _ _ => true
  | .tijmp _ _ _ => true
  | .ebr _ => true
  | .ebmovi _ _ => true
  | .ejmp _ => true
  | .ljmp _ => true
  | .eldEInd _ _ => true
  | .eldEIdx _ _ _ => true
  | .eldbEInd _ _ => true
  | .eldbEIdx _ _ _ => true
  | .dpts => true
  | .epts => true
  | .lcall _ => true
  | .ret => true
  | .ecall _ => true
  | .pushf => true
  | .popf => true
  | .pusha => true
  | .popa => true
  | .idlpd _ => true
  | .trap => true
  | .clrc => true
  | .setc => true
  | .di => true
  | .ei => true
  | .clrvt => true
  | .nop => true
  | .rst => true
  | .mul3Dir _ _ _ => true
  | .mul3Imm _ _ _ => true
  | .mul3Ind _ _ _ => true
  | .mul3Idx _ _ base off => signedIndexFits p base off
  | .mulb3Dir _ _ _ => true
  | .mulb3Imm _ _ _ => true
  | .mulb3Ind _ _ _ => true
  | .mulb3Idx _ _ base off => signedIndexFits p base off
  | .mulDir _ _ => true
  | .mulImm _ _ => true
  | .mulInd _ _ => true
  | .mulIdx _ base off => signedIndexFits p base off
  | .mulbDir _ _ => true
  | .mulbImm _ _ => true
  | .mulbInd _ _ => true
  | .mulbIdx _ base off => signedIndexFits p base off
  | .divDir _ _ => true
  | .divImm _ _ => true
  | .divInd _ _ => true
  | .divIdx _ base off => signedIndexFits p base off
  | .divbDir _ _ => true
  | .divbImm _ _ => true
  | .divbInd _ _ => true
  | .divbIdx _ base off => signedIndexFits p base off

end Sys2Proof
end

