-- ==== Sys2Proof/Decode.lean ====
section
/-! DEFINITION. The decoder from window bytes to an instruction: prefix detection, template lookup,
addressing-mode disambiguation, length and truncation (spec/30_encoding.md R71-R86,
spec/60_exceptions.md R382, R383), then the constructor of the row; and after it the encoder, from
the same layouts (R78, R79). Total on any bytes: what is no instruction is rejected by name. -/

namespace Sys2Proof.Machine

/-- What classification leaves of a window that holds a whole instruction: the template found, and
`raw`, the first `byte_length` bytes (spec/30_encoding.md R72-R86). `modeBit` is bit 0 of the mode
byte where a template's mode asks for it (R80-R82). -/
structure Fetched where
  t       : Template
  signed  : Bool
  opcode  : Byte
  modeBit : Bool
  raw     : List Byte
deriving DecidableEq, Repr

/-- The outcome of classification: a truncated window with the byte count it needs, an opcode with
no template (with `win[0]`), or a whole instruction. -/
inductive Classified where
  | truncated (need : Nat)
  | unknown (first : Byte)
  | fetched (f : Fetched)
deriving DecidableEq, Repr

/-- The index of the mode byte (spec/30_encoding.md R80). -/
def modeByteIndex (p : Params) (signed : Bool) : Nat :=
  if signed && p.signedModeByte == .operand then 2 else 1

/-- Steps 4 and 5 read the mode byte only for `indexed` with VariableLength, or `indirect`
(spec/30_encoding.md R81, R82; spec/60_exceptions.md R382, check T2). -/
def needsModeByte (t : Template) : Bool :=
  (t.mode == .indexed && t.variableLength) || t.mode == .indirect

/-- Bit 0 of the mode byte, where a template needs it. -/
def modeBitOf (p : Params) (t : Template) (signed : Bool) (bytes : List Byte) : Bool :=
  needsModeByte t && bit0 (bytes.getD (modeByteIndex p signed) 0)

/-- Step 4 selects long-indexed (spec/30_encoding.md R81). -/
def isLongIndexed (t : Template) (modeBit : Bool) : Bool :=
  t.mode == .indexed && t.variableLength && modeBit

/-- `byte_length = t.length + (long-indexed ? 1 : 0) + (signed ? 1 : 0)` (spec/30_encoding.md R86). -/
def finalLength (t : Template) (signed modeBit : Bool) : Nat :=
  t.length + (isLongIndexed t modeBit).toNat + signed.toNat

/-- Template lookup, then the checks T2 and T3 of spec/60_exceptions.md R382 in the order of R383,
then slicing (spec/30_encoding.md R85). `first` is `win[0]`. -/
def classifyAt (p : Params) (first : Byte) (signed : Bool) (opcode : Byte) (bytes : List Byte) :
    Classified :=
  match lookupTemplate p signed opcode with
  | none => .unknown first
  | some t =>
    if needsModeByte t && bytes.length ≤ modeByteIndex p signed then
      .truncated (modeByteIndex p signed + 1)
    else
      let modeBit := modeBitOf p t signed bytes
      let len := finalLength t signed modeBit
      if bytes.length < len then .truncated len
      else .fetched { t, signed, opcode, modeBit, raw := bytes.take len }

/-- Classification of the valid bytes of a window: T0, then prefix detection
(spec/30_encoding.md R72) with T1, then `classifyAt`. -/
def classify (p : Params) (bytes : List Byte) : Classified :=
  match bytes with
  | [] => .truncated 1
  | b0 :: rest =>
    if b0 = p.signedPrefix then
      match rest with
      | [] => .truncated 2
      | b1 :: _ => classifyAt p b0 true b1 bytes
    else classifyAt p b0 false b0 bytes

/-- Where `raw_ops` starts: 2 when signed, else 1 (spec/30_encoding.md R84). -/
def Fetched.start (f : Fetched) : Nat := if f.signed then 2 else 1

/-- `raw_ops`, the operand bytes `ops[0..L-1]` (spec/30_encoding.md R85). -/
def Fetched.ops (f : Fetched) : List Byte := f.raw.drop f.start

/-! ## The row's constructor

Each helper reads one operand layout of spec/30_encoding.md R78, R79 and refuses any other count of
operand bytes. The plain layouts hold the declared operands in reverse (R77). -/

/-- No operand byte. -/
def ops0 (i : Instr) : List Byte → Option Instr
  | [] => some i
  | _ => none

/-- One operand byte. -/
def ops1 (mk : Byte → Instr) : List Byte → Option Instr
  | [a] => some (mk a)
  | _ => none

/-- `d1 d0`. -/
def ops2 (mk : Byte → Byte → Instr) : List Byte → Option Instr
  | [d1, d0] => some (mk d0 d1)
  | _ => none

/-- `d2 d1 d0`. -/
def ops3 (mk : Byte → Byte → Byte → Instr) : List Byte → Option Instr
  | [d2, d1, d0] => some (mk d0 d1 d2)
  | _ => none

/-- `lo hi`. -/
def immW1 (mk : Word → Instr) : List Byte → Option Instr
  | [lo, hi] => some (mk (le16 lo hi))
  | _ => none

/-- `lo hi d0`. -/
def immW2 (mk : Byte → Word → Instr) : List Byte → Option Instr
  | [lo, hi, d0] => some (mk d0 (le16 lo hi))
  | _ => none

/-- `lo hi d1 d0`. -/
def immW3 (mk : Byte → Byte → Word → Instr) : List Byte → Option Instr
  | [lo, hi, d1, d0] => some (mk d0 d1 (le16 lo hi))
  | _ => none

/-- `base off` or `base lo hi`. -/
def idx1 (mk : Byte → IndexOffset → Instr) : List Byte → Option Instr
  | [base, off] => some (mk base (.byte off))
  | [base, lo, hi] => some (mk base (.word (le16 lo hi)))
  | _ => none

/-- `base off d0` or `base lo hi d0`. -/
def idx2 (mk : Byte → Byte → IndexOffset → Instr) : List Byte → Option Instr
  | [base, off, d0] => some (mk d0 base (.byte off))
  | [base, lo, hi, d0] => some (mk d0 base (.word (le16 lo hi)))
  | _ => none

/-- `base off d1 d0` or `base lo hi d1 d0`. -/
def idx3 (mk : Byte → Byte → Byte → IndexOffset → Instr) : List Byte → Option Instr
  | [base, off, d1, d0] => some (mk d0 d1 base (.byte off))
  | [base, lo, hi, d1, d0] => some (mk d0 d1 base (.word (le16 lo hi)))
  | _ => none

/-- `ptr x0 x1 x2 d0`. -/
def eidx (mk : Byte → Byte → BitVec 24 → Instr) : List Byte → Option Instr
  | [ptr, x0, x1, x2, d0] => some (mk d0 ptr (le24 x0 x1 x2))
  | _ => none

/-- `d0 d1 d2`, a 24-bit displacement. -/
def disp24 (mk : BitVec 24 → Instr) : List Byte → Option Instr
  | [x0, x1, x2] => some (mk (le24 x0 x1 x2))
  | _ => none

/-- `op[2:0] ++ lo`, the 11-bit displacement (spec/30_encoding.md R79). -/
def disp11 (mk : BitVec 11 → Instr) (opcode : Byte) : List Byte → Option Instr
  | [lo] => some (mk (opcode.extractLsb' 0 3 ++ lo))
  | _ => none

/-- `op reg disp8` with the bit index `op[2:0]` (spec/30_encoding.md R79). -/
def bitTest (mk : BitVec 3 → Byte → Byte → Instr) (opcode : Byte) : List Byte → Option Instr
  | [reg, disp] => some (mk (opcode.extractLsb' 0 3) reg disp)
  | _ => none

/-- `op reg disp8` (spec/30_encoding.md R79). -/
def regDisp (mk : Byte → Byte → Instr) : List Byte → Option Instr
  | [reg, disp] => some (mk reg disp)
  | _ => none

/-- The rows of opcodes 0x00-0x0F, by the low four bits. -/
def buildRow0 (lo : Nat) (ops : List Byte) : Option Instr :=
  match lo with
  | 0x0 => ops1 .skip ops
  | 0x1 => ops1 .clrw ops
  | 0x2 => ops1 .notw ops
  | 0x3 => ops1 .negw ops
  | 0x4 => ops2 .xchDir ops
  | 0x5 => ops1 .decw ops
  | 0x6 => ops1 .ext ops
  | 0x7 => ops1 .incw ops
  | 0x8 => ops2 .shrw ops
  | 0x9 => ops2 .shlw ops
  | 0xA => ops2 .shraw ops
  | 0xB => idx2 .xchIdx ops
  | 0xC => ops2 .shrl ops
  | 0xD => ops2 .shll ops
  | 0xE => ops2 .shral ops
  | 0xF => ops2 .norml ops
  | _ => none

/-- The rows of opcodes 0x10-0x1F, by the low four bits. -/
def buildRow1 (lo : Nat) (ops : List Byte) : Option Instr :=
  match lo with
  | 0x1 => ops1 .clrb ops
  | 0x2 => ops1 .notb ops
  | 0x3 => ops1 .negb ops
  | 0x4 => ops2 .xchbDir ops
  | 0x5 => ops1 .decb ops
  | 0x6 => ops1 .extb ops
  | 0x7 => ops1 .incb ops
  | 0x8 => ops2 .shrb ops
  | 0x9 => ops2 .shlb ops
  | 0xA => ops2 .shrab ops
  | 0xB => idx2 .xchbIdx ops
  | 0xC => ops2 .estEInd ops
  | 0xD => eidx .estEIdx ops
  | 0xE => ops2 .estbEInd ops
  | 0xF => eidx .estbEIdx ops
  | _ => none

/-- The rows of opcodes 0x20-0x2F, by the low four bits. -/
def buildRow2 (lo : Nat) (opcode : Byte) (ops : List Byte) : Option Instr :=
  match lo with
  | 0 | 1 | 2 | 3 | 4 | 5 | 6 | 7 => disp11 .sjmp opcode ops
  | 8 | 9 | 10 | 11 | 12 | 13 | 14 | 15 => disp11 .scall opcode ops
  | _ => none

/-- The rows of opcodes 0x30-0x3F, by the low four bits. -/
def buildRow3 (lo : Nat) (opcode : Byte) (ops : List Byte) : Option Instr :=
  match lo with
  | 0 | 1 | 2 | 3 | 4 | 5 | 6 | 7 => bitTest .jbc opcode ops
  | 8 | 9 | 10 | 11 | 12 | 13 | 14 | 15 => bitTest .jbs opcode ops
  | _ => none

/-- The rows of opcodes 0x40-0x4F, by the low four bits. -/
def buildRow4 (lo : Nat) (ops : List Byte) : Option Instr :=
  match lo with
  | 0x0 => ops3 .and3Dir ops
  | 0x1 => immW3 .and3Imm ops
  | 0x2 => ops3 .and3Ind ops
  | 0x3 => idx3 .and3Idx ops
  | 0x4 => ops3 .add3Dir ops
  | 0x5 => immW3 .add3Imm ops
  | 0x6 => ops3 .add3Ind ops
  | 0x7 => idx3 .add3Idx ops
  | 0x8 => ops3 .sub3Dir ops
  | 0x9 => immW3 .sub3Imm ops
  | 0xA => ops3 .sub3Ind ops
  | 0xB => idx3 .sub3Idx ops
  | 0xC => ops3 .mulu3Dir ops
  | 0xD => immW3 .mulu3Imm ops
  | 0xE => ops3 .mulu3Ind ops
  | 0xF => idx3 .mulu3Idx ops
  | _ => none

/-- The rows of opcodes 0x50-0x5F, by the low four bits. -/
def buildRow5 (lo : Nat) (ops : List Byte) : Option Instr :=
  match lo with
  | 0x0 => ops3 .andb3Dir ops
  | 0x1 => ops3 .andb3Imm ops
  | 0x2 => ops3 .andb3Ind ops
  | 0x3 => idx3 .andb3Idx ops
  | 0x4 => ops3 .addb3Dir ops
  | 0x5 => ops3 .addb3Imm ops
  | 0x6 => ops3 .addb3Ind ops
  | 0x7 => idx3 .addb3Idx ops
  | 0x8 => ops3 .subb3Dir ops
  | 0x9 => ops3 .subb3Imm ops
  | 0xA => ops3 .subb3Ind ops
  | 0xB => idx3 .subb3Idx ops
  | 0xC => ops3 .mulub3Dir ops
  | 0xD => ops3 .mulub3Imm ops
  | 0xE => ops3 .mulub3Ind ops
  | 0xF => idx3 .mulub3Idx ops
  | _ => none

/-- The rows of opcodes 0x60-0x6F, by the low four bits. -/
def buildRow6 (lo : Nat) (ops : List Byte) : Option Instr :=
  match lo with
  | 0x0 => ops2 .andDir ops
  | 0x1 => immW2 .andImm ops
  | 0x2 => ops2 .andInd ops
  | 0x3 => idx2 .andIdx ops
  | 0x4 => ops2 .addDir ops
  | 0x5 => immW2 .addImm ops
  | 0x6 => ops2 .addInd ops
  | 0x7 => idx2 .addIdx ops
  | 0x8 => ops2 .subDir ops
  | 0x9 => immW2 .subImm ops
  | 0xA => ops2 .subInd ops
  | 0xB => idx2 .subIdx ops
  | 0xC => ops2 .muluDir ops
  | 0xD => immW2 .muluImm ops
  | 0xE => ops2 .muluInd ops
  | 0xF => idx2 .muluIdx ops
  | _ => none

/-- The rows of opcodes 0x70-0x7F, by the low four bits. -/
def buildRow7 (lo : Nat) (ops : List Byte) : Option Instr :=
  match lo with
  | 0x0 => ops2 .andbDir ops
  | 0x1 => ops2 .andbImm ops
  | 0x2 => ops2 .andbInd ops
  | 0x3 => idx2 .andbIdx ops
  | 0x4 => ops2 .addbDir ops
  | 0x5 => ops2 .addbImm ops
  | 0x6 => ops2 .addbInd ops
  | 0x7 => idx2 .addbIdx ops
  | 0x8 => ops2 .subbDir ops
  | 0x9 => ops2 .subbImm ops
  | 0xA => ops2 .subbInd ops
  | 0xB => idx2 .subbIdx ops
  | 0xC => ops2 .mulubDir ops
  | 0xD => ops2 .mulubImm ops
  | 0xE => ops2 .mulubInd ops
  | 0xF => idx2 .mulubIdx ops
  | _ => none

/-- The rows of opcodes 0x80-0x8F, by the low four bits. -/
def buildRow8 (lo : Nat) (ops : List Byte) : Option Instr :=
  match lo with
  | 0x0 => ops2 .orDir ops
  | 0x1 => immW2 .orImm ops
  | 0x2 => ops2 .orInd ops
  | 0x3 => idx2 .orIdx ops
  | 0x4 => ops2 .xorDir ops
  | 0x5 => immW2 .xorImm ops
  | 0x6 => ops2 .xorInd ops
  | 0x7 => idx2 .xorIdx ops
  | 0x8 => ops2 .cmpDir ops
  | 0x9 => immW2 .cmpImm ops
  | 0xA => ops2 .cmpInd ops
  | 0xB => idx2 .cmpIdx ops
  | 0xC => ops2 .divuDir ops
  | 0xD => immW2 .divuImm ops
  | 0xE => ops2 .divuInd ops
  | 0xF => idx2 .divuIdx ops
  | _ => none

/-- The rows of opcodes 0x90-0x9F, by the low four bits. -/
def buildRow9 (lo : Nat) (ops : List Byte) : Option Instr :=
  match lo with
  | 0x0 => ops2 .orbDir ops
  | 0x1 => ops2 .orbImm ops
  | 0x2 => ops2 .orbInd ops
  | 0x3 => idx2 .orbIdx ops
  | 0x4 => ops2 .xorbDir ops
  | 0x5 => ops2 .xorbImm ops
  | 0x6 => ops2 .xorbInd ops
  | 0x7 => idx2 .xorbIdx ops
  | 0x8 => ops2 .cmpbDir ops
  | 0x9 => ops2 .cmpbImm ops
  | 0xA => ops2 .cmpbInd ops
  | 0xB => idx2 .cmpbIdx ops
  | 0xC => ops2 .divubDir ops
  | 0xD => ops2 .divubImm ops
  | 0xE => ops2 .divubInd ops
  | 0xF => idx2 .divubIdx ops
  | _ => none

/-- The rows of opcodes 0xA0-0xAF, by the low four bits. -/
def buildRowA (lo : Nat) (ops : List Byte) : Option Instr :=
  match lo with
  | 0x0 => ops2 .ldDir ops
  | 0x1 => immW2 .ldImm ops
  | 0x2 => ops2 .ldInd ops
  | 0x3 => idx2 .ldIdx ops
  | 0x4 => ops2 .addcDir ops
  | 0x5 => immW2 .addcImm ops
  | 0x6 => ops2 .addcInd ops
  | 0x7 => idx2 .addcIdx ops
  | 0x8 => ops2 .subcDir ops
  | 0x9 => immW2 .subcImm ops
  | 0xA => ops2 .subcInd ops
  | 0xB => idx2 .subcIdx ops
  | 0xC => ops2 .ldbzeDir ops
  | 0xD => ops2 .ldbzeImm ops
  | 0xE => ops2 .ldbzeInd ops
  | 0xF => idx2 .ldbzeIdx ops
  | _ => none

/-- The rows of opcodes 0xB0-0xBF, by the low four bits. -/
def buildRowB (lo : Nat) (ops : List Byte) : Option Instr :=
  match lo with
  | 0x0 => ops2 .ldbDir ops
  | 0x1 => ops2 .ldbImm ops
  | 0x2 => ops2 .ldbInd ops
  | 0x3 => idx2 .ldbIdx ops
  | 0x4 => ops2 .addcbDir ops
  | 0x5 => ops2 .addcbImm ops
  | 0x6 => ops2 .addcbInd ops
  | 0x7 => idx2 .addcbIdx ops
  | 0x8 => ops2 .subcbDir ops
  | 0x9 => ops2 .subcbImm ops
  | 0xA => ops2 .subcbInd ops
  | 0xB => idx2 .subcbIdx ops
  | 0xC => ops2 .ldbseDir ops
  | 0xD => ops2 .ldbseImm ops
  | 0xE => ops2 .ldbseInd ops
  | 0xF => idx2 .ldbseIdx ops
  | _ => none

/-- The rows of opcodes 0xC0-0xCF, by the low four bits. -/
def buildRowC (lo : Nat) (ops : List Byte) : Option Instr :=
  match lo with
  | 0x0 => ops2 .stDir ops
  | 0x1 => ops2 .bmov ops
  | 0x2 => ops2 .stInd ops
  | 0x3 => idx2 .stIdx ops
  | 0x4 => ops2 .stbDir ops
  | 0x5 => ops2 .cmpl ops
  | 0x6 => ops2 .stbInd ops
  | 0x7 => idx2 .stbIdx ops
  | 0x8 => ops1 .pushDir ops
  | 0x9 => immW1 .pushImm ops
  | 0xA => ops1 .pushInd ops
  | 0xB => idx1 .pushIdx ops
  | 0xC => ops1 .popDir ops
  | 0xD => ops2 .bmovi ops
  | 0xE => ops1 .popInd ops
  | 0xF => idx1 .popIdx ops
  | _ => none

/-- The rows of opcodes 0xD0-0xDF, by the low four bits. -/
def buildRowD (lo : Nat) (ops : List Byte) : Option Instr :=
  match lo with
  | 0x0 => ops1 .jnst ops
  | 0x1 => ops1 .jnh ops
  | 0x2 => ops1 .jgt ops
  | 0x3 => ops1 .jnc ops
  | 0x4 => ops1 .jnvt ops
  | 0x5 => ops1 .jnv ops
  | 0x6 => ops1 .jge ops
  | 0x7 => ops1 .jne ops
  | 0x8 => ops1 .jst ops
  | 0x9 => ops1 .jh ops
  | 0xA => ops1 .jle ops
  | 0xB => ops1 .jc ops
  | 0xC => ops1 .jvt ops
  | 0xD => ops1 .jv ops
  | 0xE => ops1 .jlt ops
  | 0xF => ops1 .je ops
  | _ => none

/-- The rows of opcodes 0xE0-0xEF, by the low four bits. -/
def buildRowE (lo : Nat) (ops : List Byte) : Option Instr :=
  match lo with
  | 0x0 => regDisp .djnz ops
  | 0x1 => regDisp .djnzw ops
  | 0x2 => ops3 .tijmp ops
  | 0x3 => ops1 .ebr ops
  | 0x4 => ops2 .ebmovi ops
  | 0x6 => disp24 .ejmp ops
  | 0x7 => immW1 .ljmp ops
  | 0x8 => ops2 .eldEInd ops
  | 0x9 => eidx .eldEIdx ops
  | 0xA => ops2 .eldbEInd ops
  | 0xB => eidx .eldbEIdx ops
  | 0xC => ops0 .dpts ops
  | 0xD => ops0 .epts ops
  | 0xF => immW1 .lcall ops
  | _ => none

/-- The rows of opcodes 0xF0-0xFF, by the low four bits. -/
def buildRowF (lo : Nat) (ops : List Byte) : Option Instr :=
  match lo with
  | 0x0 => ops0 .ret ops
  | 0x1 => disp24 .ecall ops
  | 0x2 => ops0 .pushf ops
  | 0x3 => ops0 .popf ops
  | 0x4 => ops0 .pusha ops
  | 0x5 => ops0 .popa ops
  | 0x6 => ops1 .idlpd ops
  | 0x7 => ops0 .trap ops
  | 0x8 => ops0 .clrc ops
  | 0x9 => ops0 .setc ops
  | 0xA => ops0 .di ops
  | 0xB => ops0 .ei ops
  | 0xC => ops0 .clrvt ops
  | 0xD => ops0 .nop ops
  | 0xF => ops0 .rst ops
  | _ => none

/-- The row of an unsigned opcode: high four bits, then low four bits. -/
def buildUnsigned (opcode : Byte) (ops : List Byte) : Option Instr :=
  let lo := (opcode.extractLsb' 0 4).toNat
  match (opcode.extractLsb' 4 4).toNat with
  | 0x0 => buildRow0 lo ops
  | 0x1 => buildRow1 lo ops
  | 0x2 => buildRow2 lo opcode ops
  | 0x3 => buildRow3 lo opcode ops
  | 0x4 => buildRow4 lo ops
  | 0x5 => buildRow5 lo ops
  | 0x6 => buildRow6 lo ops
  | 0x7 => buildRow7 lo ops
  | 0x8 => buildRow8 lo ops
  | 0x9 => buildRow9 lo ops
  | 0xA => buildRowA lo ops
  | 0xB => buildRowB lo ops
  | 0xC => buildRowC lo ops
  | 0xD => buildRowD lo ops
  | 0xE => buildRowE lo ops
  | 0xF => buildRowF lo ops
  | _ => none

/-- The row of a signed opcode. -/
def buildSigned (opcode : Byte) (ops : List Byte) : Option Instr :=
  match opcode.toNat with
  | 0x4C => ops3 .mul3Dir ops
  | 0x4D => immW3 .mul3Imm ops
  | 0x4E => ops3 .mul3Ind ops
  | 0x4F => idx3 .mul3Idx ops
  | 0x5C => ops3 .mulb3Dir ops
  | 0x5D => ops3 .mulb3Imm ops
  | 0x5E => ops3 .mulb3Ind ops
  | 0x5F => idx3 .mulb3Idx ops
  | 0x6C => ops2 .mulDir ops
  | 0x6D => immW2 .mulImm ops
  | 0x6E => ops2 .mulInd ops
  | 0x6F => idx2 .mulIdx ops
  | 0x7C => ops2 .mulbDir ops
  | 0x7D => ops2 .mulbImm ops
  | 0x7E => ops2 .mulbInd ops
  | 0x7F => idx2 .mulbIdx ops
  | 0x8C => ops2 .divDir ops
  | 0x8D => immW2 .divImm ops
  | 0x8E => ops2 .divInd ops
  | 0x8F => idx2 .divIdx ops
  | 0x9C => ops2 .divbDir ops
  | 0x9D => ops2 .divbImm ops
  | 0x9E => ops2 .divbInd ops
  | 0x9F => idx2 .divbIdx ops
  | _ => none

/-- The constructor for an opcode and its operand bytes. -/
def buildInstr (signed : Bool) (opcode : Byte) (ops : List Byte) : Option Instr :=
  if signed then buildSigned opcode ops else buildUnsigned opcode ops

/-! ## The row of a constructor, and the encoder -/

/-- A row of spec/opcode_table.json: the table it is in, its opcode byte, its template. -/
structure Row where
  signed : Bool
  opcode : Byte
  t      : Template
deriving DecidableEq, Repr

/-- The row an instruction belongs to. The opcode byte of 0x20-0x3F holds bits of an operand
(spec/30_encoding.md R93). -/
def instrRow : Instr → Row
  | .skip _ => ⟨false, 0x00, tSkip⟩
  | .clrw _ => ⟨false, 0x01, tClrw⟩
  | .notw _ => ⟨false, 0x02, tNotw⟩
  | .negw _ => ⟨false, 0x03, tNegw⟩
  | .xchDir _ _ => ⟨false, 0x04, tXchDir⟩
  | .decw _ => ⟨false, 0x05, tDecw⟩
  | .ext _ => ⟨false, 0x06, tExt⟩
  | .incw _ => ⟨false, 0x07, tIncw⟩
  | .shrw _ _ => ⟨false, 0x08, tShrw⟩
  | .shlw _ _ => ⟨false, 0x09, tShlw⟩
  | .shraw _ _ => ⟨false, 0x0A, tShraw⟩
  | .xchIdx _ _ _ => ⟨false, 0x0B, tXchIdx⟩
  | .shrl _ _ => ⟨false, 0x0C, tShrl⟩
  | .shll _ _ => ⟨false, 0x0D, tShll⟩
  | .shral _ _ => ⟨false, 0x0E, tShral⟩
  | .norml _ _ => ⟨false, 0x0F, tNorml⟩
  | .clrb _ => ⟨false, 0x11, tClrb⟩
  | .notb _ => ⟨false, 0x12, tNotb⟩
  | .negb _ => ⟨false, 0x13, tNegb⟩
  | .xchbDir _ _ => ⟨false, 0x14, tXchbDir⟩
  | .decb _ => ⟨false, 0x15, tDecb⟩
  | .extb _ => ⟨false, 0x16, tExtb⟩
  | .incb _ => ⟨false, 0x17, tIncb⟩
  | .shrb _ _ => ⟨false, 0x18, tShrb⟩
  | .shlb _ _ => ⟨false, 0x19, tShlb⟩
  | .shrab _ _ => ⟨false, 0x1A, tShrab⟩
  | .xchbIdx _ _ _ => ⟨false, 0x1B, tXchbIdx⟩
  | .estEInd _ _ => ⟨false, 0x1C, tEstEInd⟩
  | .estEIdx _ _ _ => ⟨false, 0x1D, tEstEIdx⟩
  | .estbEInd _ _ => ⟨false, 0x1E, tEstbEInd⟩
  | .estbEIdx _ _ _ => ⟨false, 0x1F, tEstbEIdx⟩
  | .sjmp disp => ⟨false, 0x20 ||| (disp.extractLsb' 8 3).setWidth 8, tSjmp⟩
  | .scall disp => ⟨false, 0x28 ||| (disp.extractLsb' 8 3).setWidth 8, tScall⟩
  | .jbc bitno _ _ => ⟨false, 0x30 ||| bitno.setWidth 8, tJbc⟩
  | .jbs bitno _ _ => ⟨false, 0x38 ||| bitno.setWidth 8, tJbs⟩
  | .and3Dir _ _ _ => ⟨false, 0x40, tAnd3Dir⟩
  | .and3Imm _ _ _ => ⟨false, 0x41, tAnd3Imm⟩
  | .and3Ind _ _ _ => ⟨false, 0x42, tAnd3Ind⟩
  | .and3Idx _ _ _ _ => ⟨false, 0x43, tAnd3Idx⟩
  | .add3Dir _ _ _ => ⟨false, 0x44, tAdd3Dir⟩
  | .add3Imm _ _ _ => ⟨false, 0x45, tAdd3Imm⟩
  | .add3Ind _ _ _ => ⟨false, 0x46, tAdd3Ind⟩
  | .add3Idx _ _ _ _ => ⟨false, 0x47, tAdd3Idx⟩
  | .sub3Dir _ _ _ => ⟨false, 0x48, tSub3Dir⟩
  | .sub3Imm _ _ _ => ⟨false, 0x49, tSub3Imm⟩
  | .sub3Ind _ _ _ => ⟨false, 0x4A, tSub3Ind⟩
  | .sub3Idx _ _ _ _ => ⟨false, 0x4B, tSub3Idx⟩
  | .mulu3Dir _ _ _ => ⟨false, 0x4C, tMulu3Dir⟩
  | .mulu3Imm _ _ _ => ⟨false, 0x4D, tMulu3Imm⟩
  | .mulu3Ind _ _ _ => ⟨false, 0x4E, tMulu3Ind⟩
  | .mulu3Idx _ _ _ _ => ⟨false, 0x4F, tMulu3Idx⟩
  | .andb3Dir _ _ _ => ⟨false, 0x50, tAndb3Dir⟩
  | .andb3Imm _ _ _ => ⟨false, 0x51, tAndb3Imm⟩
  | .andb3Ind _ _ _ => ⟨false, 0x52, tAndb3Ind⟩
  | .andb3Idx _ _ _ _ => ⟨false, 0x53, tAndb3Idx⟩
  | .addb3Dir _ _ _ => ⟨false, 0x54, tAddb3Dir⟩
  | .addb3Imm _ _ _ => ⟨false, 0x55, tAddb3Imm⟩
  | .addb3Ind _ _ _ => ⟨false, 0x56, tAddb3Ind⟩
  | .addb3Idx _ _ _ _ => ⟨false, 0x57, tAddb3Idx⟩
  | .subb3Dir _ _ _ => ⟨false, 0x58, tSubb3Dir⟩
  | .subb3Imm _ _ _ => ⟨false, 0x59, tSubb3Imm⟩
  | .subb3Ind _ _ _ => ⟨false, 0x5A, tSubb3Ind⟩
  | .subb3Idx _ _ _ _ => ⟨false, 0x5B, tSubb3Idx⟩
  | .mulub3Dir _ _ _ => ⟨false, 0x5C, tMulub3Dir⟩
  | .mulub3Imm _ _ _ => ⟨false, 0x5D, tMulub3Imm⟩
  | .mulub3Ind _ _ _ => ⟨false, 0x5E, tMulub3Ind⟩
  | .mulub3Idx _ _ _ _ => ⟨false, 0x5F, tMulub3Idx⟩
  | .andDir _ _ => ⟨false, 0x60, tAndDir⟩
  | .andImm _ _ => ⟨false, 0x61, tAndImm⟩
  | .andInd _ _ => ⟨false, 0x62, tAndInd⟩
  | .andIdx _ _ _ => ⟨false, 0x63, tAndIdx⟩
  | .addDir _ _ => ⟨false, 0x64, tAddDir⟩
  | .addImm _ _ => ⟨false, 0x65, tAddImm⟩
  | .addInd _ _ => ⟨false, 0x66, tAddInd⟩
  | .addIdx _ _ _ => ⟨false, 0x67, tAddIdx⟩
  | .subDir _ _ => ⟨false, 0x68, tSubDir⟩
  | .subImm _ _ => ⟨false, 0x69, tSubImm⟩
  | .subInd _ _ => ⟨false, 0x6A, tSubInd⟩
  | .subIdx _ _ _ => ⟨false, 0x6B, tSubIdx⟩
  | .muluDir _ _ => ⟨false, 0x6C, tMuluDir⟩
  | .muluImm _ _ => ⟨false, 0x6D, tMuluImm⟩
  | .muluInd _ _ => ⟨false, 0x6E, tMuluInd⟩
  | .muluIdx _ _ _ => ⟨false, 0x6F, tMuluIdx⟩
  | .andbDir _ _ => ⟨false, 0x70, tAndbDir⟩
  | .andbImm _ _ => ⟨false, 0x71, tAndbImm⟩
  | .andbInd _ _ => ⟨false, 0x72, tAndbInd⟩
  | .andbIdx _ _ _ => ⟨false, 0x73, tAndbIdx⟩
  | .addbDir _ _ => ⟨false, 0x74, tAddbDir⟩
  | .addbImm _ _ => ⟨false, 0x75, tAddbImm⟩
  | .addbInd _ _ => ⟨false, 0x76, tAddbInd⟩
  | .addbIdx _ _ _ => ⟨false, 0x77, tAddbIdx⟩
  | .subbDir _ _ => ⟨false, 0x78, tSubbDir⟩
  | .subbImm _ _ => ⟨false, 0x79, tSubbImm⟩
  | .subbInd _ _ => ⟨false, 0x7A, tSubbInd⟩
  | .subbIdx _ _ _ => ⟨false, 0x7B, tSubbIdx⟩
  | .mulubDir _ _ => ⟨false, 0x7C, tMulubDir⟩
  | .mulubImm _ _ => ⟨false, 0x7D, tMulubImm⟩
  | .mulubInd _ _ => ⟨false, 0x7E, tMulubInd⟩
  | .mulubIdx _ _ _ => ⟨false, 0x7F, tMulubIdx⟩
  | .orDir _ _ => ⟨false, 0x80, tOrDir⟩
  | .orImm _ _ => ⟨false, 0x81, tOrImm⟩
  | .orInd _ _ => ⟨false, 0x82, tOrInd⟩
  | .orIdx _ _ _ => ⟨false, 0x83, tOrIdx⟩
  | .xorDir _ _ => ⟨false, 0x84, tXorDir⟩
  | .xorImm _ _ => ⟨false, 0x85, tXorImm⟩
  | .xorInd _ _ => ⟨false, 0x86, tXorInd⟩
  | .xorIdx _ _ _ => ⟨false, 0x87, tXorIdx⟩
  | .cmpDir _ _ => ⟨false, 0x88, tCmpDir⟩
  | .cmpImm _ _ => ⟨false, 0x89, tCmpImm⟩
  | .cmpInd _ _ => ⟨false, 0x8A, tCmpInd⟩
  | .cmpIdx _ _ _ => ⟨false, 0x8B, tCmpIdx⟩
  | .divuDir _ _ => ⟨false, 0x8C, tDivuDir⟩
  | .divuImm _ _ => ⟨false, 0x8D, tDivuImm⟩
  | .divuInd _ _ => ⟨false, 0x8E, tDivuInd⟩
  | .divuIdx _ _ _ => ⟨false, 0x8F, tDivuIdx⟩
  | .orbDir _ _ => ⟨false, 0x90, tOrbDir⟩
  | .orbImm _ _ => ⟨false, 0x91, tOrbImm⟩
  | .orbInd _ _ => ⟨false, 0x92, tOrbInd⟩
  | .orbIdx _ _ _ => ⟨false, 0x93, tOrbIdx⟩
  | .xorbDir _ _ => ⟨false, 0x94, tXorbDir⟩
  | .xorbImm _ _ => ⟨false, 0x95, tXorbImm⟩
  | .xorbInd _ _ => ⟨false, 0x96, tXorbInd⟩
  | .xorbIdx _ _ _ => ⟨false, 0x97, tXorbIdx⟩
  | .cmpbDir _ _ => ⟨false, 0x98, tCmpbDir⟩
  | .cmpbImm _ _ => ⟨false, 0x99, tCmpbImm⟩
  | .cmpbInd _ _ => ⟨false, 0x9A, tCmpbInd⟩
  | .cmpbIdx _ _ _ => ⟨false, 0x9B, tCmpbIdx⟩
  | .divubDir _ _ => ⟨false, 0x9C, tDivubDir⟩
  | .divubImm _ _ => ⟨false, 0x9D, tDivubImm⟩
  | .divubInd _ _ => ⟨false, 0x9E, tDivubInd⟩
  | .divubIdx _ _ _ => ⟨false, 0x9F, tDivubIdx⟩
  | .ldDir _ _ => ⟨false, 0xA0, tLdDir⟩
  | .ldImm _ _ => ⟨false, 0xA1, tLdImm⟩
  | .ldInd _ _ => ⟨false, 0xA2, tLdInd⟩
  | .ldIdx _ _ _ => ⟨false, 0xA3, tLdIdx⟩
  | .addcDir _ _ => ⟨false, 0xA4, tAddcDir⟩
  | .addcImm _ _ => ⟨false, 0xA5, tAddcImm⟩
  | .addcInd _ _ => ⟨false, 0xA6, tAddcInd⟩
  | .addcIdx _ _ _ => ⟨false, 0xA7, tAddcIdx⟩
  | .subcDir _ _ => ⟨false, 0xA8, tSubcDir⟩
  | .subcImm _ _ => ⟨false, 0xA9, tSubcImm⟩
  | .subcInd _ _ => ⟨false, 0xAA, tSubcInd⟩
  | .subcIdx _ _ _ => ⟨false, 0xAB, tSubcIdx⟩
  | .ldbzeDir _ _ => ⟨false, 0xAC, tLdbzeDir⟩
  | .ldbzeImm _ _ => ⟨false, 0xAD, tLdbzeImm⟩
  | .ldbzeInd _ _ => ⟨false, 0xAE, tLdbzeInd⟩
  | .ldbzeIdx _ _ _ => ⟨false, 0xAF, tLdbzeIdx⟩
  | .ldbDir _ _ => ⟨false, 0xB0, tLdbDir⟩
  | .ldbImm _ _ => ⟨false, 0xB1, tLdbImm⟩
  | .ldbInd _ _ => ⟨false, 0xB2, tLdbInd⟩
  | .ldbIdx _ _ _ => ⟨false, 0xB3, tLdbIdx⟩
  | .addcbDir _ _ => ⟨false, 0xB4, tAddcbDir⟩
  | .addcbImm _ _ => ⟨false, 0xB5, tAddcbImm⟩
  | .addcbInd _ _ => ⟨false, 0xB6, tAddcbInd⟩
  | .addcbIdx _ _ _ => ⟨false, 0xB7, tAddcbIdx⟩
  | .subcbDir _ _ => ⟨false, 0xB8, tSubcbDir⟩
  | .subcbImm _ _ => ⟨false, 0xB9, tSubcbImm⟩
  | .subcbInd _ _ => ⟨false, 0xBA, tSubcbInd⟩
  | .subcbIdx _ _ _ => ⟨false, 0xBB, tSubcbIdx⟩
  | .ldbseDir _ _ => ⟨false, 0xBC, tLdbseDir⟩
  | .ldbseImm _ _ => ⟨false, 0xBD, tLdbseImm⟩
  | .ldbseInd _ _ => ⟨false, 0xBE, tLdbseInd⟩
  | .ldbseIdx _ _ _ => ⟨false, 0xBF, tLdbseIdx⟩
  | .stDir _ _ => ⟨false, 0xC0, tStDir⟩
  | .bmov _ _ => ⟨false, 0xC1, tBmov⟩
  | .stInd _ _ => ⟨false, 0xC2, tStInd⟩
  | .stIdx _ _ _ => ⟨false, 0xC3, tStIdx⟩
  | .stbDir _ _ => ⟨false, 0xC4, tStbDir⟩
  | .cmpl _ _ => ⟨false, 0xC5, tCmpl⟩
  | .stbInd _ _ => ⟨false, 0xC6, tStbInd⟩
  | .stbIdx _ _ _ => ⟨false, 0xC7, tStbIdx⟩
  | .pushDir _ => ⟨false, 0xC8, tPushDir⟩
  | .pushImm _ => ⟨false, 0xC9, tPushImm⟩
  | .pushInd _ => ⟨false, 0xCA, tPushInd⟩
  | .pushIdx _ _ => ⟨false, 0xCB, tPushIdx⟩
  | .popDir _ => ⟨false, 0xCC, tPopDir⟩
  | .bmovi _ _ => ⟨false, 0xCD, tBmovi⟩
  | .popInd _ => ⟨false, 0xCE, tPopInd⟩
  | .popIdx _ _ => ⟨false, 0xCF, tPopIdx⟩
  | .jnst _ => ⟨false, 0xD0, tJnst⟩
  | .jnh _ => ⟨false, 0xD1, tJnh⟩
  | .jgt _ => ⟨false, 0xD2, tJgt⟩
  | .jnc _ => ⟨false, 0xD3, tJnc⟩
  | .jnvt _ => ⟨false, 0xD4, tJnvt⟩
  | .jnv _ => ⟨false, 0xD5, tJnv⟩
  | .jge _ => ⟨false, 0xD6, tJge⟩
  | .jne _ => ⟨false, 0xD7, tJne⟩
  | .jst _ => ⟨false, 0xD8, tJst⟩
  | .jh _ => ⟨false, 0xD9, tJh⟩
  | .jle _ => ⟨false, 0xDA, tJle⟩
  | .jc _ => ⟨false, 0xDB, tJc⟩
  | .jvt _ => ⟨false, 0xDC, tJvt⟩
  | .jv _ => ⟨false, 0xDD, tJv⟩
  | .jlt _ => ⟨false, 0xDE, tJlt⟩
  | .je _ => ⟨false, 0xDF, tJe⟩
  | .djnz _ _ => ⟨false, 0xE0, tDjnz⟩
  | .djnzw _ _ => ⟨false, 0xE1, tDjnzw⟩
  | .tijmp _ _ _ => ⟨false, 0xE2, tTijmp⟩
  | .ebr _ => ⟨false, 0xE3, tEbr⟩
  | .ebmovi _ _ => ⟨false, 0xE4, tEbmovi⟩
  | .ejmp _ => ⟨false, 0xE6, tEjmp⟩
  | .ljmp _ => ⟨false, 0xE7, tLjmp⟩
  | .eldEInd _ _ => ⟨false, 0xE8, tEldEInd⟩
  | .eldEIdx _ _ _ => ⟨false, 0xE9, tEldEIdx⟩
  | .eldbEInd _ _ => ⟨false, 0xEA, tEldbEInd⟩
  | .eldbEIdx _ _ _ => ⟨false, 0xEB, tEldbEIdx⟩
  | .dpts => ⟨false, 0xEC, tDpts⟩
  | .epts => ⟨false, 0xED, tEpts⟩
  | .lcall _ => ⟨false, 0xEF, tLcall⟩
  | .ret => ⟨false, 0xF0, tRet⟩
  | .ecall _ => ⟨false, 0xF1, tEcall⟩
  | .pushf => ⟨false, 0xF2, tPushf⟩
  | .popf => ⟨false, 0xF3, tPopf⟩
  | .pusha => ⟨false, 0xF4, tPusha⟩
  | .popa => ⟨false, 0xF5, tPopa⟩
  | .idlpd _ => ⟨false, 0xF6, tIdlpd⟩
  | .trap => ⟨false, 0xF7, tTrap⟩
  | .clrc => ⟨false, 0xF8, tClrc⟩
  | .setc => ⟨false, 0xF9, tSetc⟩
  | .di => ⟨false, 0xFA, tDi⟩
  | .ei => ⟨false, 0xFB, tEi⟩
  | .clrvt => ⟨false, 0xFC, tClrvt⟩
  | .nop => ⟨false, 0xFD, tNop⟩
  | .rst => ⟨false, 0xFF, tRst⟩
  | .mul3Dir _ _ _ => ⟨true, 0x4C, tMul3Dir⟩
  | .mul3Imm _ _ _ => ⟨true, 0x4D, tMul3Imm⟩
  | .mul3Ind _ _ _ => ⟨true, 0x4E, tMul3Ind⟩
  | .mul3Idx _ _ _ _ => ⟨true, 0x4F, tMul3Idx⟩
  | .mulb3Dir _ _ _ => ⟨true, 0x5C, tMulb3Dir⟩
  | .mulb3Imm _ _ _ => ⟨true, 0x5D, tMulb3Imm⟩
  | .mulb3Ind _ _ _ => ⟨true, 0x5E, tMulb3Ind⟩
  | .mulb3Idx _ _ _ _ => ⟨true, 0x5F, tMulb3Idx⟩
  | .mulDir _ _ => ⟨true, 0x6C, tMulDir⟩
  | .mulImm _ _ => ⟨true, 0x6D, tMulImm⟩
  | .mulInd _ _ => ⟨true, 0x6E, tMulInd⟩
  | .mulIdx _ _ _ => ⟨true, 0x6F, tMulIdx⟩
  | .mulbDir _ _ => ⟨true, 0x7C, tMulbDir⟩
  | .mulbImm _ _ => ⟨true, 0x7D, tMulbImm⟩
  | .mulbInd _ _ => ⟨true, 0x7E, tMulbInd⟩
  | .mulbIdx _ _ _ => ⟨true, 0x7F, tMulbIdx⟩
  | .divDir _ _ => ⟨true, 0x8C, tDivDir⟩
  | .divImm _ _ => ⟨true, 0x8D, tDivImm⟩
  | .divInd _ _ => ⟨true, 0x8E, tDivInd⟩
  | .divIdx _ _ _ => ⟨true, 0x8F, tDivIdx⟩
  | .divbDir _ _ => ⟨true, 0x9C, tDivbDir⟩
  | .divbImm _ _ => ⟨true, 0x9D, tDivbImm⟩
  | .divbInd _ _ => ⟨true, 0x9E, tDivbInd⟩
  | .divbIdx _ _ _ => ⟨true, 0x9F, tDivbIdx⟩

/-- The offset bytes of an indexed operand, low byte first (spec/30_encoding.md R78). -/
def offsetBytes : IndexOffset → List Byte
  | .byte o => [o]
  | .word o => [byteOf o 0, byteOf o 1]

/-- The operand bytes of an instruction (spec/30_encoding.md R78, R79). -/
def operandBytes : Instr → List Byte
  | .skip pad => [pad]
  | .clrw dst => [dst]
  | .notw dst => [dst]
  | .negw dst => [dst]
  | .xchDir dst src => [src, dst]
  | .decw dst => [dst]
  | .ext dst => [dst]
  | .incw dst => [dst]
  | .shrw dst cnt => [cnt, dst]
  | .shlw dst cnt => [cnt, dst]
  | .shraw dst cnt => [cnt, dst]
  | .xchIdx dst base off => base :: offsetBytes off ++ [dst]
  | .shrl dst cnt => [cnt, dst]
  | .shll dst cnt => [cnt, dst]
  | .shral dst cnt => [cnt, dst]
  | .norml dst cnt => [cnt, dst]
  | .clrb dst => [dst]
  | .notb dst => [dst]
  | .negb dst => [dst]
  | .xchbDir dst src => [src, dst]
  | .decb dst => [dst]
  | .extb dst => [dst]
  | .incb dst => [dst]
  | .shrb dst cnt => [cnt, dst]
  | .shlb dst cnt => [cnt, dst]
  | .shrab dst cnt => [cnt, dst]
  | .xchbIdx dst base off => base :: offsetBytes off ++ [dst]
  | .estEInd src ptr => [ptr, src]
  | .estEIdx src ptr disp => [ptr, byteOf disp 0, byteOf disp 1, byteOf disp 2, src]
  | .estbEInd src ptr => [ptr, src]
  | .estbEIdx src ptr disp => [ptr, byteOf disp 0, byteOf disp 1, byteOf disp 2, src]
  | .sjmp disp => [byteOf disp 0]
  | .scall disp => [byteOf disp 0]
  | .jbc _ reg disp => [reg, disp]
  | .jbs _ reg disp => [reg, disp]
  | .and3Dir dst src1 src2 => [src2, src1, dst]
  | .and3Imm dst src1 imm => [byteOf imm 0, byteOf imm 1, src1, dst]
  | .and3Ind dst src1 ptr => [ptr, src1, dst]
  | .and3Idx dst src1 base off => base :: offsetBytes off ++ [src1, dst]
  | .add3Dir dst src1 src2 => [src2, src1, dst]
  | .add3Imm dst src1 imm => [byteOf imm 0, byteOf imm 1, src1, dst]
  | .add3Ind dst src1 ptr => [ptr, src1, dst]
  | .add3Idx dst src1 base off => base :: offsetBytes off ++ [src1, dst]
  | .sub3Dir dst src1 src2 => [src2, src1, dst]
  | .sub3Imm dst src1 imm => [byteOf imm 0, byteOf imm 1, src1, dst]
  | .sub3Ind dst src1 ptr => [ptr, src1, dst]
  | .sub3Idx dst src1 base off => base :: offsetBytes off ++ [src1, dst]
  | .mulu3Dir dst src1 src2 => [src2, src1, dst]
  | .mulu3Imm dst src1 imm => [byteOf imm 0, byteOf imm 1, src1, dst]
  | .mulu3Ind dst src1 ptr => [ptr, src1, dst]
  | .mulu3Idx dst src1 base off => base :: offsetBytes off ++ [src1, dst]
  | .andb3Dir dst src1 src2 => [src2, src1, dst]
  | .andb3Imm dst src1 imm => [imm, src1, dst]
  | .andb3Ind dst src1 ptr => [ptr, src1, dst]
  | .andb3Idx dst src1 base off => base :: offsetBytes off ++ [src1, dst]
  | .addb3Dir dst src1 src2 => [src2, src1, dst]
  | .addb3Imm dst src1 imm => [imm, src1, dst]
  | .addb3Ind dst src1 ptr => [ptr, src1, dst]
  | .addb3Idx dst src1 base off => base :: offsetBytes off ++ [src1, dst]
  | .subb3Dir dst src1 src2 => [src2, src1, dst]
  | .subb3Imm dst src1 imm => [imm, src1, dst]
  | .subb3Ind dst src1 ptr => [ptr, src1, dst]
  | .subb3Idx dst src1 base off => base :: offsetBytes off ++ [src1, dst]
  | .mulub3Dir dst src1 src2 => [src2, src1, dst]
  | .mulub3Imm dst src1 imm => [imm, src1, dst]
  | .mulub3Ind dst src1 ptr => [ptr, src1, dst]
  | .mulub3Idx dst src1 base off => base :: offsetBytes off ++ [src1, dst]
  | .andDir dst src => [src, dst]
  | .andImm dst imm => [byteOf imm 0, byteOf imm 1, dst]
  | .andInd dst ptr => [ptr, dst]
  | .andIdx dst base off => base :: offsetBytes off ++ [dst]
  | .addDir dst src => [src, dst]
  | .addImm dst imm => [byteOf imm 0, byteOf imm 1, dst]
  | .addInd dst ptr => [ptr, dst]
  | .addIdx dst base off => base :: offsetBytes off ++ [dst]
  | .subDir dst src => [src, dst]
  | .subImm dst imm => [byteOf imm 0, byteOf imm 1, dst]
  | .subInd dst ptr => [ptr, dst]
  | .subIdx dst base off => base :: offsetBytes off ++ [dst]
  | .muluDir dst src => [src, dst]
  | .muluImm dst imm => [byteOf imm 0, byteOf imm 1, dst]
  | .muluInd dst ptr => [ptr, dst]
  | .muluIdx dst base off => base :: offsetBytes off ++ [dst]
  | .andbDir dst src => [src, dst]
  | .andbImm dst imm => [imm, dst]
  | .andbInd dst ptr => [ptr, dst]
  | .andbIdx dst base off => base :: offsetBytes off ++ [dst]
  | .addbDir dst src => [src, dst]
  | .addbImm dst imm => [imm, dst]
  | .addbInd dst ptr => [ptr, dst]
  | .addbIdx dst base off => base :: offsetBytes off ++ [dst]
  | .subbDir dst src => [src, dst]
  | .subbImm dst imm => [imm, dst]
  | .subbInd dst ptr => [ptr, dst]
  | .subbIdx dst base off => base :: offsetBytes off ++ [dst]
  | .mulubDir dst src => [src, dst]
  | .mulubImm dst imm => [imm, dst]
  | .mulubInd dst ptr => [ptr, dst]
  | .mulubIdx dst base off => base :: offsetBytes off ++ [dst]
  | .orDir dst src => [src, dst]
  | .orImm dst imm => [byteOf imm 0, byteOf imm 1, dst]
  | .orInd dst ptr => [ptr, dst]
  | .orIdx dst base off => base :: offsetBytes off ++ [dst]
  | .xorDir dst src => [src, dst]
  | .xorImm dst imm => [byteOf imm 0, byteOf imm 1, dst]
  | .xorInd dst ptr => [ptr, dst]
  | .xorIdx dst base off => base :: offsetBytes off ++ [dst]
  | .cmpDir dst src => [src, dst]
  | .cmpImm dst imm => [byteOf imm 0, byteOf imm 1, dst]
  | .cmpInd dst ptr => [ptr, dst]
  | .cmpIdx dst base off => base :: offsetBytes off ++ [dst]
  | .divuDir dst src => [src, dst]
  | .divuImm dst imm => [byteOf imm 0, byteOf imm 1, dst]
  | .divuInd dst ptr => [ptr, dst]
  | .divuIdx dst base off => base :: offsetBytes off ++ [dst]
  | .orbDir dst src => [src, dst]
  | .orbImm dst imm => [imm, dst]
  | .orbInd dst ptr => [ptr, dst]
  | .orbIdx dst base off => base :: offsetBytes off ++ [dst]
  | .xorbDir dst src => [src, dst]
  | .xorbImm dst imm => [imm, dst]
  | .xorbInd dst ptr => [ptr, dst]
  | .xorbIdx dst base off => base :: offsetBytes off ++ [dst]
  | .cmpbDir dst src => [src, dst]
  | .cmpbImm dst imm => [imm, dst]
  | .cmpbInd dst ptr => [ptr, dst]
  | .cmpbIdx dst base off => base :: offsetBytes off ++ [dst]
  | .divubDir dst src => [src, dst]
  | .divubImm dst imm => [imm, dst]
  | .divubInd dst ptr => [ptr, dst]
  | .divubIdx dst base off => base :: offsetBytes off ++ [dst]
  | .ldDir dst src => [src, dst]
  | .ldImm dst imm => [byteOf imm 0, byteOf imm 1, dst]
  | .ldInd dst ptr => [ptr, dst]
  | .ldIdx dst base off => base :: offsetBytes off ++ [dst]
  | .addcDir dst src => [src, dst]
  | .addcImm dst imm => [byteOf imm 0, byteOf imm 1, dst]
  | .addcInd dst ptr => [ptr, dst]
  | .addcIdx dst base off => base :: offsetBytes off ++ [dst]
  | .subcDir dst src => [src, dst]
  | .subcImm dst imm => [byteOf imm 0, byteOf imm 1, dst]
  | .subcInd dst ptr => [ptr, dst]
  | .subcIdx dst base off => base :: offsetBytes off ++ [dst]
  | .ldbzeDir dst src => [src, dst]
  | .ldbzeImm dst imm => [imm, dst]
  | .ldbzeInd dst ptr => [ptr, dst]
  | .ldbzeIdx dst base off => base :: offsetBytes off ++ [dst]
  | .ldbDir dst src => [src, dst]
  | .ldbImm dst imm => [imm, dst]
  | .ldbInd dst ptr => [ptr, dst]
  | .ldbIdx dst base off => base :: offsetBytes off ++ [dst]
  | .addcbDir dst src => [src, dst]
  | .addcbImm dst imm => [imm, dst]
  | .addcbInd dst ptr => [ptr, dst]
  | .addcbIdx dst base off => base :: offsetBytes off ++ [dst]
  | .subcbDir dst src => [src, dst]
  | .subcbImm dst imm => [imm, dst]
  | .subcbInd dst ptr => [ptr, dst]
  | .subcbIdx dst base off => base :: offsetBytes off ++ [dst]
  | .ldbseDir dst src => [src, dst]
  | .ldbseImm dst imm => [imm, dst]
  | .ldbseInd dst ptr => [ptr, dst]
  | .ldbseIdx dst base off => base :: offsetBytes off ++ [dst]
  | .stDir src dst => [dst, src]
  | .bmov ptrs cnt => [cnt, ptrs]
  | .stInd src ptr => [ptr, src]
  | .stIdx src base off => base :: offsetBytes off ++ [src]
  | .stbDir src dst => [dst, src]
  | .cmpl dst src => [src, dst]
  | .stbInd src ptr => [ptr, src]
  | .stbIdx src base off => base :: offsetBytes off ++ [src]
  | .pushDir src => [src]
  | .pushImm imm => [byteOf imm 0, byteOf imm 1]
  | .pushInd ptr => [ptr]
  | .pushIdx base off => base :: offsetBytes off
  | .popDir dst => [dst]
  | .bmovi ptrs cnt => [cnt, ptrs]
  | .popInd ptr => [ptr]
  | .popIdx base off => base :: offsetBytes off
  | .jnst disp => [disp]
  | .jnh disp => [disp]
  | .jgt disp => [disp]
  | .jnc disp => [disp]
  | .jnvt disp => [disp]
  | .jnv disp => [disp]
  | .jge disp => [disp]
  | .jne disp => [disp]
  | .jst disp => [disp]
  | .jh disp => [disp]
  | .jle disp => [disp]
  | .jc disp => [disp]
  | .jvt disp => [disp]
  | .jv disp => [disp]
  | .jlt disp => [disp]
  | .je disp => [disp]
  | .djnz cnt disp => [cnt, disp]
  | .djnzw cnt disp => [cnt, disp]
  | .tijmp tbase mask index => [index, mask, tbase]
  | .ebr ptr => [ptr]
  | .ebmovi ptrs cnt => [cnt, ptrs]
  | .ejmp disp => [byteOf disp 0, byteOf disp 1, byteOf disp 2]
  | .ljmp disp => [byteOf disp 0, byteOf disp 1]
  | .eldEInd dst ptr => [ptr, dst]
  | .eldEIdx dst ptr disp => [ptr, byteOf disp 0, byteOf disp 1, byteOf disp 2, dst]
  | .eldbEInd dst ptr => [ptr, dst]
  | .eldbEIdx dst ptr disp => [ptr, byteOf disp 0, byteOf disp 1, byteOf disp 2, dst]
  | .dpts => []
  | .epts => []
  | .lcall disp => [byteOf disp 0, byteOf disp 1]
  | .ret => []
  | .ecall disp => [byteOf disp 0, byteOf disp 1, byteOf disp 2]
  | .pushf => []
  | .popf => []
  | .pusha => []
  | .popa => []
  | .idlpd key => [key]
  | .trap => []
  | .clrc => []
  | .setc => []
  | .di => []
  | .ei => []
  | .clrvt => []
  | .nop => []
  | .rst => []
  | .mul3Dir dst src1 src2 => [src2, src1, dst]
  | .mul3Imm dst src1 imm => [byteOf imm 0, byteOf imm 1, src1, dst]
  | .mul3Ind dst src1 ptr => [ptr, src1, dst]
  | .mul3Idx dst src1 base off => base :: offsetBytes off ++ [src1, dst]
  | .mulb3Dir dst src1 src2 => [src2, src1, dst]
  | .mulb3Imm dst src1 imm => [imm, src1, dst]
  | .mulb3Ind dst src1 ptr => [ptr, src1, dst]
  | .mulb3Idx dst src1 base off => base :: offsetBytes off ++ [src1, dst]
  | .mulDir dst src => [src, dst]
  | .mulImm dst imm => [byteOf imm 0, byteOf imm 1, dst]
  | .mulInd dst ptr => [ptr, dst]
  | .mulIdx dst base off => base :: offsetBytes off ++ [dst]
  | .mulbDir dst src => [src, dst]
  | .mulbImm dst imm => [imm, dst]
  | .mulbInd dst ptr => [ptr, dst]
  | .mulbIdx dst base off => base :: offsetBytes off ++ [dst]
  | .divDir dst src => [src, dst]
  | .divImm dst imm => [byteOf imm 0, byteOf imm 1, dst]
  | .divInd dst ptr => [ptr, dst]
  | .divIdx dst base off => base :: offsetBytes off ++ [dst]
  | .divbDir dst src => [src, dst]
  | .divbImm dst imm => [imm, dst]
  | .divbInd dst ptr => [ptr, dst]
  | .divbIdx dst base off => base :: offsetBytes off ++ [dst]

/-- The bytes `[P] op ops` of a row (spec/30_encoding.md R70). -/
def rowBytes (p : Params) (signed : Bool) (opcode : Byte) (ops : List Byte) : List Byte :=
  (if signed then [p.signedPrefix] else []) ++ opcode :: ops

/-- What classification yields for a row's bytes: the row's template and those bytes. -/
def Fetched.ofRow (p : Params) (t : Template) (signed : Bool) (opcode : Byte) (ops : List Byte) :
    Fetched :=
  { t, signed, opcode, modeBit := modeBitOf p t signed (rowBytes p signed opcode ops),
    raw := rowBytes p signed opcode ops }

end Sys2Proof.Machine

namespace Sys2Proof

open Machine

/-- The decoder's answer: a truncated window, an opcode without a template, an instruction of the
opcode table, or an instruction whose template a non-default table supplied
(spec/00_scope.md R8, spec/30_encoding.md R92). -/
inductive Decoded where
  | truncated (need : Nat)
  | unknown (first : Byte)
  | instr (i : Instr)
  | foreign (f : Fetched)
deriving DecidableEq, Repr

/-- The constructor of a fetched instruction, if its template is that of the row its opcode has in
the default tables. -/
def rowInstr (f : Fetched) : Option Instr :=
  match buildInstr f.signed f.opcode f.ops with
  | some i => if (instrRow i).t = f.t then some i else none
  | none => none

/-- Decoding of the valid bytes of a window. -/
def decode (p : Params) (bytes : List Byte) : Decoded :=
  match classify p bytes with
  | .truncated need => .truncated need
  | .unknown first => .unknown first
  | .fetched f =>
    match rowInstr f with
    | some i => .instr i
    | none => .foreign f

/-- The bytes of an instruction, prefix included, in address order (spec/30_encoding.md R70,
R77-R79). -/
def encode (p : Params) (i : Instr) : List Byte :=
  rowBytes p (instrRow i).signed (instrRow i).opcode (operandBytes i)

/-- The tables and the prefix of `p` let the instruction's bytes reach its own row: the table holds
the row's template at its opcode, and an unsigned opcode is not the prefix byte
(spec/30_encoding.md R72, R73). -/
def Instr.inTables (p : Params) (i : Instr) : Prop :=
  lookupTemplate p (instrRow i).signed (instrRow i).opcode = some (instrRow i).t ∧
    ((instrRow i).signed = false → (instrRow i).opcode ≠ p.signedPrefix)

/-- The first `n` bytes of a number, bits 7..0 first, counting only its lowest `nbits` bits: how
spec/opcode_table.json numbers an instruction's bits. -/
def bytesOfWord (n nbits w : Nat) : List Byte :=
  (List.range n).map fun k => BitVec.ofNat 8 ((w % 2 ^ nbits) >>> (8 * k))

/-- The instruction the decoder reads, under the default parameters, from the bytes of `w`. -/
def decodeTableWord (nbits w : Nat) : Option Instr :=
  match decode defaultParams (bytesOfWord defaultParams.maxLen nbits w) with
  | .instr i => some i
  | _ => none

end Sys2Proof
end

