-- ==== Sys2Proof/Machine/State.lean ====
section
/-! DEFINITION. The decoded record, the outcomes and the state. The decoder keeps nothing between
evaluations (spec/10_state.md R20, R37): the state is its constant configuration (spec/00_scope.md
R8), its input ports (R24) and its output port (R25). -/

namespace Sys2Proof.Machine

/-- The value of a resolved operand, under its tag (spec/10_state.md R29). -/
inductive OperandVal where
  | reg (r : Byte)
  | imm8 (v : Byte)
  | imm16 (v : Word)
  | ind (r : Byte)
  | indInc (r : Byte)
  | sidx (base off : Byte)
  | lidx (base : Byte) (off : Word)
  | eind (r : Byte)
  | eidx (ptr : Byte) (disp : BitVec 24)
  | cadd (target : Int)
  | xcadd (target : Nat)
  | bitno (b : BitVec 3)
deriving DecidableEq, Repr

/-- The tag of a resolved operand (spec/10_state.md R29). -/
def OperandVal.tag : OperandVal → Tag
  | .reg _    => .reg
  | .imm8 _   => .imm8
  | .imm16 _  => .imm16
  | .ind _    => .ind
  | .indInc _ => .indInc
  | .sidx _ _ => .sidx
  | .lidx _ _ => .lidx
  | .eind _   => .eind
  | .eidx _ _ => .eidx
  | .cadd _   => .cadd
  | .xcadd _  => .xcadd
  | .bitno _  => .bitno

/-- A resolved operand `(name, tag, value)` (spec/10_state.md R29). -/
structure Operand where
  name  : String
  value : OperandVal
deriving DecidableEq, Repr

/-- A cross-reference, call or jump edge (spec/10_state.md R30). A target is an exact integer, and
may be negative (spec/40_resolution.md R114). -/
structure Edge where
  source   : Nat
  target   : Int
  mnemonic : String
deriving DecidableEq, Repr

/-- The decoded record, exactly the fields of spec/10_state.md R26. -/
structure Record where
  opcode         : Byte
  address        : Nat
  signed         : Bool
  mnemonic       : String
  mode           : Mode
  byteLength     : Nat
  operandCount   : Nat
  varTypes       : List (List Tag)
  varNames       : List String
  operands       : List Operand
  raw            : List Byte
  rawOps         : List Byte
  variableLength : Bool
  autoIncrement  : Bool
  /-- The flag `Signed`, the same as the field `signed`. -/
  signedFlag     : Bool
  ignore         : Bool
  reserved       : Bool
  checked        : Bool
  xrefs          : List Edge
  calls          : List Edge
  jumps          : List Edge
  description    : String
deriving DecidableEq, Repr

/-- The three outcomes of one evaluation (spec/10_state.md R25; spec/60_exceptions.md R381, R382). -/
inductive Output where
  | ok (r : Record)
  | unknownOpcode (len : Nat) (raw : List Byte)
  | truncated (need : Nat)
deriving DecidableEq, Repr

/-- What stops the machine. -/
inductive Fault where
  /-- Raised by `step` alone, for a state that presents no input of the decoder: a window that is
  not MAX_LEN bytes, or `avail` above MAX_LEN (spec/10_state.md R24). Safe: no such input exists,
  and the spec gives no outcome for one (assumption log, entry 4). -/
  | inputWidth
deriving DecidableEq, Repr

/-- Why an instruction is refused. -/
inductive Refusal where
  /-- An instruction without a meaning in the model. No arm raises it: every instruction of the
  opcode table has its meaning. Safe. -/
  | notModelled (mnemonic : String)
deriving DecidableEq, Repr

/-- The machine: constant configuration, input ports, output port. -/
structure State where
  /-- The parameters of spec/00_scope.md R8, constant for the life of the decoder (R9). -/
  cfg   : Params
  /-- `win[0..MAX_LEN-1]` (spec/10_state.md R24). -/
  win   : List Byte
  /-- The count of valid leading bytes of `win` (spec/10_state.md R24). -/
  avail : Nat
  /-- The address of the instruction's first byte (spec/10_state.md R22, R24). -/
  addr  : Nat
  /-- The outcome of the last evaluation (spec/10_state.md R25; assumption log, entry 1). -/
  out   : Output
deriving DecidableEq, Repr

/-- The machine right after reset. Reset sets nothing (spec/70_reset_and_hazards.md R400): the
configuration holds its default values; the input ports hold the values of assumption log entry 2
(DESIGN CHOICE: the spec gives an input none), no byte presented; the output is the decoder's
outcome for exactly those inputs, `Truncated(need=1)` (spec/60_exceptions.md R382, check T0). -/
def State.reset : State where
  cfg   := defaultParams
  win   := [0, 0, 0, 0, 0, 0, 0]
  avail := 0
  addr  := 0
  out   := .truncated 1

end Sys2Proof.Machine
end

