-- ==== Sys2Proof/Machine/Flags.lean ====
section
/-! DEFINITION. The computed fields and flags of a record: the refined mode, AutoIncrement, the
mnemonic, and the outcome's status code. The flags VariableLength, Ignore and Reserved are copies
(spec/10_state.md R31, R34), Signed is the record's `signed` (R33). -/

namespace Sys2Proof.Machine

/-- The mode after steps 4 and 5 (spec/30_encoding.md R81, R82, R83). -/
def refinedMode (t : Template) (modeBit : Bool) : Mode :=
  match t.mode with
  | .indexed  => if t.variableLength then (if modeBit then .longIndexed else .shortIndexed)
                 else .indexed
  | .indirect => if modeBit then .indirectInc else .indirect
  | m         => m

/-- AutoIncrement: set by step 5 alone (spec/10_state.md R32, spec/30_encoding.md R82). -/
def autoIncrementFlag (t : Template) (modeBit : Bool) : Bool :=
  t.mode == .indirect && modeBit

/-- The mnemonic after step 6 (spec/30_encoding.md R84). -/
def adjustedMnemonic (t : Template) (signed : Bool) : String :=
  if signed then "SGN " ++ t.mnemonic else t.mnemonic

/-- The 2-bit status code of an outcome (spec/60_exceptions.md R387). -/
def Output.status : Output → BitVec 2
  | .ok _              => 0
  | .unknownOpcode _ _ => 1
  | .truncated _       => 2

end Sys2Proof.Machine
end

