-- ==== Sys2Proof/Machine/Ops.lean ====
section
/-! DEFINITION. The named operations: what the outside may do to the ports, what an evaluation puts
on the output port (in the place of exception entry and return, which the decoder does not have:
spec/60_exceptions.md R389), the working value of one evaluation, and the steps 3 to 9 of a decode
(spec/30_encoding.md R71) shared by every instruction. -/

namespace Sys2Proof.Machine

/-! ## Ports -/

/-- The outside drives new values onto the input ports (spec/10_state.md R24). -/
def State.present (s : State) (win : List Byte) (avail addr : Nat) : State :=
  { s with win, avail, addr }

/-- The decoder's outcome goes to the output port and nowhere else (spec/60_exceptions.md R386). -/
def State.emit (s : State) (o : Output) : State :=
  { s with out := o }

/-- `raise UnknownOpcode(len=1)`, with `raw = [win[0]]` (spec/60_exceptions.md R380, R381). -/
def State.raiseUnknown (s : State) (first : Byte) : State :=
  s.emit (.unknownOpcode 1 [first])

/-- `raise Truncated(need=k)` (spec/60_exceptions.md R382). -/
def State.raiseTruncated (s : State) (need : Nat) : State :=
  s.emit (.truncated need)

/-- The valid bytes: `win[i]` for `i` at or beyond `avail` is never read
(spec/60_exceptions.md R382, spec/20_memory.md R50). -/
def State.window (s : State) : List Byte :=
  s.win.take s.avail

/-- The ports hold an input of the decoder: MAX_LEN bytes and an `avail` in 0..MAX_LEN
(spec/10_state.md R24). -/
def State.portsFit (s : State) : Bool :=
  s.win.length == s.cfg.maxLen && s.avail ≤ s.cfg.maxLen

/-! ## One evaluation -/

/-- The working value of one evaluation: the record, and the cross-reference targets emitted so far
(spec/10_state.md R36). -/
structure Eval where
  record : Record
  seen   : List Nat
deriving DecidableEq, Repr

/-- `operand k <- (name, tag, value)`, in declared order (spec/40_resolution.md R125). -/
def Eval.operand (e : Eval) (name : String) (value : OperandVal) : Eval :=
  { e with record := { e.record with operands := e.record.operands ++ [⟨name, value⟩] } }

/-- The edge from this instruction to `target`, with the mnemonic of the moment
(spec/10_state.md R30, spec/40_resolution.md R124). -/
def Eval.edge (e : Eval) (target : Int) : Edge :=
  { source := e.record.address, target, mnemonic := e.record.mnemonic }

/-- `XREF(v)`: only above the threshold, and once per target (spec/40_resolution.md R121). -/
def Eval.xref (p : Params) (v : Byte) (e : Eval) : Eval :=
  if p.xrefThreshold < v.toNat ∧ v.toNat ∉ e.seen then
    { record := { e.record with xrefs := e.record.xrefs ++ [e.edge v.toNat] },
      seen := e.seen ++ [v.toNat] }
  else e

/-- `CALL(t)`, unconditional (spec/40_resolution.md R122). -/
def Eval.call (target : Int) (e : Eval) : Eval :=
  { e with record := { e.record with calls := e.record.calls ++ [e.edge target] } }

/-- `JUMP(t)`, unconditional (spec/40_resolution.md R122). -/
def Eval.jump (target : Int) (e : Eval) : Eval :=
  { e with record := { e.record with jumps := e.record.jumps ++ [e.edge target] } }

/-- The 0xE3 rewrite of mnemonic and mode in place (spec/45_ex_group.md R233). -/
def Eval.retag (e : Eval) (mnemonic : String) (mode : Mode) : Eval :=
  { e with record := { e.record with mnemonic, mode } }

/-- An operand resolver: from the parameters, the fetched instruction and the evaluation so far, the
evaluation with its operands and edges written, or `none` for an unhandled case
(spec/40_resolution.md R125, R149). -/
abbrev Resolver := Params → Fetched → Eval → Option Eval

/-- The record before operand resolution: the copied template fields, mode refinement, signed
adjustment and slicing (spec/30_encoding.md R74, R81, R82, R84, R85, R86). -/
def initRecord (addr : Nat) (f : Fetched) : Record where
  opcode         := f.opcode
  address        := addr
  signed         := f.signed
  mnemonic       := adjustedMnemonic f.t f.signed
  mode           := refinedMode f.t f.modeBit
  byteLength     := finalLength f.t f.signed f.modeBit
  operandCount   := f.t.ops.length
  varTypes       := f.t.ops.map OperandDesc.varTypes
  varNames       := f.t.ops.map OperandDesc.name
  operands       := []
  raw            := f.raw
  rawOps         := f.ops
  variableLength := f.t.variableLength
  autoIncrement  := autoIncrementFlag f.t f.modeBit
  signedFlag     := f.signed
  ignore         := f.t.ignore
  reserved       := f.t.reserved
  checked        := false
  xrefs          := []
  calls          := []
  jumps          := []
  description    := f.t.description

/-- Completion: Checked is 1 when the resolver was handled; an unhandled resolver leaves no operand
and no edge (spec/40_resolution.md R149). -/
def completeRecord (r : Record) (resolved : Option Eval) : Record :=
  match resolved with
  | some e => { e.record with checked := true }
  | none   => r

/-- Steps 3 to 9: the initial record, the zero-operand exit (spec/30_encoding.md R87), and otherwise
the resolver, with an empty `seen` set (spec/10_state.md R36), and completion. -/
def decodeRecord (p : Params) (addr : Nat) (f : Fetched) (res : Resolver) : Record :=
  let r := initRecord addr f
  if f.t.ops.isEmpty then { r with checked := true }
  else completeRecord r (res p f ⟨r, []⟩)

/-- The shared meaning of an instruction with operands: its record, from its row's template, opcode
and operand bytes by the resolver `res`, on the output port. -/
def runRow (s : State) (t : Template) (signed : Bool) (opcode : Byte) (ops : List Byte)
    (res : Resolver) : Host.Outcome State Fault Refusal :=
  .next (s.emit (.ok (decodeRecord s.cfg s.addr (Fetched.ofRow s.cfg t signed opcode ops) res)))

/-- The shared meaning of an instruction whose template declares no operand: it reaches no resolver
(spec/30_encoding.md R87). -/
def runInherent (s : State) (t : Template) (opcode : Byte) (ops : List Byte) :
    Host.Outcome State Fault Refusal :=
  runRow s t false opcode ops (fun _ _ _ => none)

end Sys2Proof.Machine
end

