-- ==== Sys2Proof/Machine/Operands.lean ====
section
/-! DEFINITION. The offset calculator, displacements and targets (spec/40_resolution.md R110-R114),
the per-mode operand resolvers (R125-R135) and the resolvers of the ten groups
(spec/30_encoding.md R88; spec/41_short_jump_call.md to spec/49_middle_group_signed.md). -/

namespace Sys2Proof.Machine

/-! ## Displacements and targets -/

/-- The offset calculator, by the procedure of spec/40_resolution.md R110. -/
def offset11 (b0 b1 : Byte) : Int :=
  let h := b0 &&& 0x07
  let h := if h &&& 0x04 ≠ 0 then h ||| 0xFC else h
  sext (h ++ b1)

/-- `end = addr + byte_length` (spec/40_resolution.md R114). -/
def Eval.endAddr (e : Eval) : Nat :=
  e.record.address + e.record.byteLength

/-- `target = end + disp`, exact, with no width mask (spec/40_resolution.md R114). -/
def Eval.target (e : Eval) (disp : Int) : Int :=
  e.endAddr + disp

/-- `XTARGET(end, disp24)` under either mask point (spec/40_resolution.md R113). -/
def xtarget (p : Params) (endAddr : Nat) (disp : Int) : Nat :=
  match p.extMaskPoint with
  | .target       => maskInt (endAddr + disp) p.extAddrMask
  | .displacement => endAddr + maskInt disp p.extAddrMask

/-! ## Per-mode resolvers -/

/-- `n`, the template's operand count. -/
def Fetched.n (f : Fetched) : Nat := f.t.ops.length

/-- `L`, the operand-byte count. -/
def Fetched.L (f : Fetched) : Nat := f.ops.length

/-- `ops[i]`. Every use stands under a precondition on `L` that puts `i` below it. -/
def Fetched.op (f : Fetched) (i : Nat) : Byte := f.ops.getD i 0

/-- The name of the last declared operand, `t.ops[n-1].name`. -/
def Fetched.lastName (f : Fetched) : String :=
  match f.t.ops.getLast? with
  | some d => d.name
  | none   => ""

/-- A plain register operand, cross-referenced (spec/40_resolution.md R123, R126). -/
def Eval.regOperand (p : Params) (name : String) (b : Byte) (e : Eval) : Eval :=
  (e.operand name (.reg b)).xref p b

/-- `PLAIN(c)`: the first `c` declared operands take the operand bytes from the last one backwards
(spec/40_resolution.md R126). -/
def plain (p : Params) (c : Nat) (f : Fetched) (e : Eval) : Eval :=
  ((f.t.ops.take c).zip f.ops.reverse).foldl (fun e x => e.regOperand p x.1.name x.2) e

/-- `PLAIN(n-1)`, then the last declared operand. -/
def plainThen (value : OperandVal) (p : Params) (f : Fetched) (e : Eval) : Eval :=
  (plain p (f.n - 1) f e).operand f.lastName value

/-- DIRECT (spec/40_resolution.md R127). -/
def resolveDirect : Resolver := fun p f e =>
  if f.L = f.n then some (plain p f.n f e) else none

/-- IMMEDIATE, its width taken from the length (spec/40_resolution.md R128). -/
def resolveImmediate : Resolver := fun p f e =>
  if f.L = f.n then some (plainThen (.imm8 (f.op 0)) p f e)
  else if f.L = f.n + 1 then some (plainThen (.imm16 (le16 (f.op 0) (f.op 1))) p f e)
  else none

/-- INDIRECT, with or without autoincrement (spec/40_resolution.md R129). -/
def resolveIndirect : Resolver := fun p f e =>
  if f.L = f.n then
    let ptr := f.op 0 &&& p.indPtrMask
    some (plainThen (if e.record.mode = .indirectInc then .indInc ptr else .ind ptr) p f e)
  else none

/-- SINDEXED (spec/40_resolution.md R130). -/
def resolveShortIndexed : Resolver := fun p f e =>
  if f.L = f.n + 1 then some (plainThen (.sidx (f.op 0 &&& p.indPtrMask) (f.op 1)) p f e)
  else none

/-- LINDEXED (spec/40_resolution.md R131). -/
def resolveLongIndexed : Resolver := fun p f e =>
  if f.L = f.n + 2 then
    some (plainThen (.lidx (f.op 0 &&& p.indPtrMask) (le16 (f.op 1) (f.op 2))) p f e)
  else none

/-- EINDIRECT (spec/40_resolution.md R132). -/
def resolveExtIndirect : Resolver := fun p f e =>
  if f.L = f.n then some (plainThen (.eind (f.op 0 &&& p.extPtrMask)) p f e) else none

/-- EINDEXED (spec/40_resolution.md R133). -/
def resolveExtIndexed : Resolver := fun p f e =>
  if f.L = f.n + 3 then
    some (plainThen (.eidx (f.op 0 &&& p.extPtrMask) (le24 (f.op 1) (f.op 2) (f.op 3))) p f e)
  else none

/-- SINDEXED or LINDEXED, by the mode that step 4 left (spec/40_resolution.md R134). -/
def resolveIndexed : Resolver := fun p f e =>
  if e.record.mode = .longIndexed then resolveLongIndexed p f e else resolveShortIndexed p f e

/-- BYMODE, the generic per-mode dispatcher (spec/40_resolution.md R134). -/
def resolveByMode : Resolver := fun p f e =>
  match e.record.mode with
  | .direct                   => resolveDirect p f e
  | .immediate                => resolveImmediate p f e
  | .indirect | .indirectInc  => resolveIndirect p f e
  | .indexed | .shortIndexed  => resolveShortIndexed p f e
  | .longIndexed              => resolveLongIndexed p f e
  | .extendedIndirect | .extendedIndexed | .inherent | .relative | .extendedRelative | .fixed => none

/-- The roles FIXED accepts (spec/40_resolution.md R135). -/
def fixedAccepts : Role → Bool
  | .reg | .imm8 | .ind => true
  | .aop | .cnt | .ptr | .cadd | .bitno => false

/-- One operand of FIXED, by its role (spec/40_resolution.md R135). -/
def fixedOperand (p : Params) (d : OperandDesc) (b : Byte) (e : Eval) : Eval :=
  match d.role with
  | .imm8 => e.operand d.name (.imm8 b)
  | .ind  => e.operand d.name (.ind (b &&& p.indPtrMask))
  | .reg | .aop | .cnt | .ptr | .cadd | .bitno => e.regOperand p d.name b

/-- FIXED (spec/40_resolution.md R135). -/
def resolveFixed : Resolver := fun p f e =>
  if f.L = f.n ∧ f.t.ops.all (fun d => fixedAccepts d.role) then
    some ((f.t.ops.zip f.ops.reverse).foldl (fun e x => fixedOperand p x.1 x.2 e) e)
  else none

/-! ## Group resolvers

A special-cased layout names its operands and its operand bytes one by one; a template with another
count of either is unhandled (spec/40_resolution.md R149; assumption log, entry 6). -/

/-- A code-address operand at `end + disp` (spec/40_resolution.md R114). -/
def Eval.codeAddress (e : Eval) (name : String) (disp : Int) : Eval :=
  e.operand name (.cadd (e.target disp))

/-- Short jump, 0x20-0x27 (spec/41_short_jump_call.md R160). -/
def resolveShortJump : Resolver := fun _ f e =>
  match f.t.ops, f.ops with
  | [d], [lo] =>
    let disp := offset11 f.opcode lo
    some ((e.codeAddress d.name disp).jump (e.target disp))
  | _, _ => none

/-- Short call, 0x28-0x2F (spec/41_short_jump_call.md R160). -/
def resolveShortCall : Resolver := fun _ f e =>
  match f.t.ops, f.ops with
  | [d], [lo] =>
    let disp := offset11 f.opcode lo
    some ((e.codeAddress d.name disp).call (e.target disp))
  | _, _ => none

/-- Jump on a bit, 0x30-0x3F: the register, the bit index, the target
(spec/42_bit_test_jumps.md R170). -/
def resolveBitTest : Resolver := fun p f e =>
  match f.t.ops, f.ops with
  | [d0, d1, d2], [reg, disp] =>
    let target := e.target (sext disp)
    some ((((e.regOperand p d0.name reg).operand d1.name (.bitno (f.opcode.extractLsb' 0 3))).operand
      d2.name (.cadd target)).jump target)
  | _, _ => none

/-- Conditional jump, 0xD0-0xDF (spec/43_conditional_jumps.md R180). -/
def resolveCondJump : Resolver := fun _ f e =>
  match f.t.ops, f.ops with
  | [d], [disp] => some ((e.codeAddress d.name (sext disp)).jump (e.target (sext disp)))
  | _, _ => none

/-- DJNZ and DJNZW: the register, then the target (spec/45_ex_group.md R231, R232). -/
def resolveDjnz : Resolver := fun p f e =>
  match f.t.ops, f.ops with
  | [d0, d1], [reg, disp] =>
    let target := e.target (sext disp)
    some (((e.regOperand p d0.name reg).operand d1.name (.cadd target)).jump target)
  | _, _ => none

/-- BR and EBR: bit 0 of the operand byte selects; mnemonic and mode are rewritten before the edges
are emitted (spec/45_ex_group.md R233, spec/40_resolution.md R124). -/
def resolveBranchIndirect : Resolver := fun p f e =>
  match f.t.ops, f.ops with
  | [d], [b] =>
    if bit0 b then
      let ptr := b &&& p.extPtrMask
      some ((((e.retag "EBR" .extendedIndirect).operand d.name (.eind ptr)).jump ptr.toNat).xref p ptr)
    else
      let ptr := b &&& p.indPtrMask
      some ((((e.retag "BR" .indirect).operand d.name (.ind ptr)).jump ptr.toNat).xref p ptr)
  | _, _ => none

/-- The masked 24-bit target of EJMP and ECALL (spec/40_resolution.md R113). -/
def Eval.extTarget (p : Params) (x0 x1 x2 : Byte) (e : Eval) : Nat :=
  xtarget p e.endAddr (sext (le24 x0 x1 x2))

/-- EJMP (spec/45_ex_group.md R236). -/
def resolveExtJump : Resolver := fun p f e =>
  match f.t.ops, f.ops with
  | [d], [x0, x1, x2] =>
    let target := e.extTarget p x0 x1 x2
    some ((e.operand d.name (.xcadd target)).jump target)
  | _, _ => none

/-- ECALL (spec/44_fx_group.md R200, first branch). -/
def resolveExtCall : Resolver := fun p f e =>
  match f.t.ops, f.ops with
  | [d], [x0, x1, x2] =>
    let target := e.extTarget p x0 x1 x2
    some ((e.operand d.name (.xcadd target)).call target)
  | _, _ => none

/-- LJMP (spec/45_ex_group.md R237; the displacement, spec/40_resolution.md R112). -/
def resolveLongJump : Resolver := fun _ f e =>
  match f.t.ops, f.ops with
  | [d], [lo, hi] =>
    let disp := sext (le16 lo hi)
    some ((e.codeAddress d.name disp).jump (e.target disp))
  | _, _ => none

/-- LCALL (spec/45_ex_group.md R238). -/
def resolveLongCall : Resolver := fun _ f e =>
  match f.t.ops, f.ops with
  | [d], [lo, hi] =>
    let disp := sext (le16 lo hi)
    some ((e.codeAddress d.name disp).call (e.target disp))
  | _, _ => none

/-- EINDIRECT or EINDEXED by the template's mode, which nothing has refined; any other mode is
unhandled (spec/45_ex_group.md R230, R239; spec/47_low_group.md R282). -/
def resolveExtended : Resolver := fun p f e =>
  match f.t.mode with
  | .extendedIndirect => resolveExtIndirect p f e
  | .extendedIndexed  => resolveExtIndexed p f e
  | .direct | .immediate | .indirect | .indirectInc | .indexed | .shortIndexed | .longIndexed
  | .inherent | .relative | .extendedRelative | .fixed => none

/-- The walk's reinterpretation test for the last operand (spec/47_low_group.md R281). -/
def countIsImmediate (opcode b : Byte) : Bool :=
  opcode.getLsbD 3 && opcode != 0x0F && b.ult 0x10

/-- The low-group walk. Only the last declared operand, `ops[L-n]`, can be reinterpreted
(spec/47_low_group.md R281). -/
def resolveLowWalk : Resolver := fun p f e =>
  if f.n ≤ f.L then
    let e := plain p (f.n - 1) f e
    let b := f.op (f.L - f.n)
    some (if countIsImmediate f.opcode b then e.operand f.lastName (.imm8 b)
          else e.regOperand p f.lastName b)
  else none

/-- The 0xFx group (spec/44_fx_group.md R200). -/
def resolveFx : Resolver := fun p f e =>
  if f.opcode = 0xF1 then resolveExtCall p f e else resolveFixed p f e

/-- The 0xEx group (spec/45_ex_group.md R230). -/
def resolveEx : Resolver := fun p f e =>
  if f.opcode = 0xE0 ∨ f.opcode = 0xE1 then resolveDjnz p f e
  else if f.opcode = 0xE3 then resolveBranchIndirect p f e
  else if f.opcode = 0xE6 then resolveExtJump p f e
  else if f.opcode = 0xE7 then resolveLongJump p f e
  else if f.opcode = 0xEF then resolveLongCall p f e
  else if f.opcode &&& 0xFC = 0xE8 then resolveExtended p f e
  else resolveFixed p f e

/-- The low group (spec/47_low_group.md R280). -/
def resolveLow : Resolver := fun p f e =>
  if f.opcode = 0x1D ∨ f.opcode = 0x1F then resolveExtended p f e else resolveLowWalk p f e

/-- The ten groups (spec/30_encoding.md R88). -/
inductive Group where
  | shortJump
  | shortCall
  | bitClear
  | bitSet
  | condJump
  | fx
  | ex
  | cx
  | low
  | middle
deriving DecidableEq, Repr

/-- Group dispatch by the real opcode byte, in priority order (spec/30_encoding.md R88). -/
def groupOf (opcode : Byte) : Group :=
  if opcode &&& 0xF8 = 0x20 then .shortJump
  else if opcode &&& 0xF8 = 0x28 then .shortCall
  else if opcode &&& 0xF8 = 0x30 then .bitClear
  else if opcode &&& 0xF8 = 0x38 then .bitSet
  else if opcode &&& 0xF0 = 0xD0 then .condJump
  else if opcode &&& 0xF0 = 0xF0 then .fx
  else if opcode &&& 0xF0 = 0xE0 then .ex
  else if opcode &&& 0xF0 = 0xC0 then .cx
  else if opcode &&& 0xE0 = 0x00 then .low
  else .middle

/-- The resolver of a group. -/
def groupResolver : Group → Resolver
  | .shortJump => resolveShortJump
  | .shortCall => resolveShortCall
  | .bitClear  => resolveBitTest
  | .bitSet    => resolveBitTest
  | .condJump  => resolveCondJump
  | .fx        => resolveFx
  | .ex        => resolveEx
  | .cx        => resolveByMode
  | .low       => resolveLow
  | .middle    => resolveByMode

/-- An instruction whose template no row of the opcode table has: decoded by the same steps, with the
resolver of its opcode's group (spec/00_scope.md R8; assumption log, entry 5). -/
def State.decodeForeign (s : State) (f : Fetched) : State :=
  s.emit (.ok (decodeRecord s.cfg s.addr f (groupResolver (groupOf f.opcode))))

end Sys2Proof.Machine
end

