-- ==== Sys2Proof/Machine/BitTest.lean ====
section
/-! DEFINITION. Jump if bit clear and jump if bit set, 0x30-0x3F (spec/42_bit_test_jumps.md R170-R172).
One meaning per row of spec/opcode_table.json: the row's template, opcode byte, operand bytes and
resolver. -/

namespace Sys2Proof.Machine

/-- `JBC`, `0011_0bbb reg disp8` (R171): BitTest, R170. -/
def execJbc (bitno : BitVec 3) (reg disp : Byte) (s : State) : Host.Outcome State Fault Refusal :=
  runRow s tJbc false (0x30 ||| bitno.setWidth 8) [reg, disp] resolveBitTest

/-- `JBS`, `0011_1bbb reg disp8` (R172): BitTest, R170. -/
def execJbs (bitno : BitVec 3) (reg disp : Byte) (s : State) : Host.Outcome State Fault Refusal :=
  runRow s tJbs false (0x38 ||| bitno.setWidth 8) [reg, disp] resolveBitTest

end Sys2Proof.Machine
end

