-- ==== Sys2Proof/Machine/CondJump.lean ====
section
/-! DEFINITION. Conditional jumps, 0xD0-0xDF (spec/43_conditional_jumps.md R180-R196).
One meaning per row of spec/opcode_table.json: the row's template, opcode byte, operand bytes and
resolver. -/

namespace Sys2Proof.Machine

/-- `JNST`, `D0 disp8` (R181): CondJump, R180. -/
def execJnst (disp : Byte) (s : State) : Host.Outcome State Fault Refusal :=
  runRow s tJnst false 0xD0 [disp] resolveCondJump

/-- `JNH`, `D1 disp8` (R182): CondJump, R180. -/
def execJnh (disp : Byte) (s : State) : Host.Outcome State Fault Refusal :=
  runRow s tJnh false 0xD1 [disp] resolveCondJump

/-- `JGT`, `D2 disp8` (R183): CondJump, R180. -/
def execJgt (disp : Byte) (s : State) : Host.Outcome State Fault Refusal :=
  runRow s tJgt false 0xD2 [disp] resolveCondJump

/-- `JNC`, `D3 disp8` (R184): CondJump, R180. -/
def execJnc (disp : Byte) (s : State) : Host.Outcome State Fault Refusal :=
  runRow s tJnc false 0xD3 [disp] resolveCondJump

/-- `JNVT`, `D4 disp8` (R185): CondJump, R180. -/
def execJnvt (disp : Byte) (s : State) : Host.Outcome State Fault Refusal :=
  runRow s tJnvt false 0xD4 [disp] resolveCondJump

/-- `JNV`, `D5 disp8` (R186): CondJump, R180. -/
def execJnv (disp : Byte) (s : State) : Host.Outcome State Fault Refusal :=
  runRow s tJnv false 0xD5 [disp] resolveCondJump

/-- `JGE`, `D6 disp8` (R187): CondJump, R180. -/
def execJge (disp : Byte) (s : State) : Host.Outcome State Fault Refusal :=
  runRow s tJge false 0xD6 [disp] resolveCondJump

/-- `JNE`, `D7 disp8` (R188): CondJump, R180. -/
def execJne (disp : Byte) (s : State) : Host.Outcome State Fault Refusal :=
  runRow s tJne false 0xD7 [disp] resolveCondJump

/-- `JST`, `D8 disp8` (R189): CondJump, R180. -/
def execJst (disp : Byte) (s : State) : Host.Outcome State Fault Refusal :=
  runRow s tJst false 0xD8 [disp] resolveCondJump

/-- `JH`, `D9 disp8` (R190): CondJump, R180. -/
def execJh (disp : Byte) (s : State) : Host.Outcome State Fault Refusal :=
  runRow s tJh false 0xD9 [disp] resolveCondJump

/-- `JLE`, `DA disp8` (R191): CondJump, R180. -/
def execJle (disp : Byte) (s : State) : Host.Outcome State Fault Refusal :=
  runRow s tJle false 0xDA [disp] resolveCondJump

/-- `JC`, `DB disp8` (R192): CondJump, R180. -/
def execJc (disp : Byte) (s : State) : Host.Outcome State Fault Refusal :=
  runRow s tJc false 0xDB [disp] resolveCondJump

/-- `JVT`, `DC disp8` (R193): CondJump, R180. -/
def execJvt (disp : Byte) (s : State) : Host.Outcome State Fault Refusal :=
  runRow s tJvt false 0xDC [disp] resolveCondJump

/-- `JV`, `DD disp8` (R194): CondJump, R180. -/
def execJv (disp : Byte) (s : State) : Host.Outcome State Fault Refusal :=
  runRow s tJv false 0xDD [disp] resolveCondJump

/-- `JLT`, `DE disp8` (R195): CondJump, R180. -/
def execJlt (disp : Byte) (s : State) : Host.Outcome State Fault Refusal :=
  runRow s tJlt false 0xDE [disp] resolveCondJump

/-- `JE`, `DF disp8` (R196): CondJump, R180. -/
def execJe (disp : Byte) (s : State) : Host.Outcome State Fault Refusal :=
  runRow s tJe false 0xDF [disp] resolveCondJump

end Sys2Proof.Machine
end

