-- ==== Sys2Proof/Machine/CxGroup.lean ====
section
/-! DEFINITION. The 0xCx group, 0xC0-0xCF (spec/46_cx_group.md R260-R267).
One meaning per row of spec/opcode_table.json: the row's template, opcode byte, operand bytes and
resolver. -/

namespace Sys2Proof.Machine

/-- `ST`, `C0 dst src` (R261): Direct, R127. -/
def execStDir (src dst : Byte) (s : State) : Host.Outcome State Fault Refusal :=
  runRow s tStDir false 0xC0 [dst, src] resolveDirect

/-- `BMOV`, `C1 cnt ptrs` (R262): Direct, R127. -/
def execBmov (ptrs cnt : Byte) (s : State) : Host.Outcome State Fault Refusal :=
  runRow s tBmov false 0xC1 [cnt, ptrs] resolveDirect

/-- `ST`, `C2 ptr|A src` (R261): Indirect, R129. -/
def execStInd (src ptr : Byte) (s : State) : Host.Outcome State Fault Refusal :=
  runRow s tStInd false 0xC2 [ptr, src] resolveIndirect

/-- `ST`, `C3 base|L off[lo (hi)] src` (R261): Indexed, R130, R131. -/
def execStIdx (src base : Byte) (off : IndexOffset) (s : State) :
    Host.Outcome State Fault Refusal :=
  runRow s tStIdx false 0xC3 (base :: offsetBytes off ++ [src]) resolveIndexed

/-- `STB`, `C4 dst src` (R263): Direct, R127. -/
def execStbDir (src dst : Byte) (s : State) : Host.Outcome State Fault Refusal :=
  runRow s tStbDir false 0xC4 [dst, src] resolveDirect

/-- `CMPL`, `C5 src dst` (R264): Direct, R127. -/
def execCmpl (dst src : Byte) (s : State) : Host.Outcome State Fault Refusal :=
  runRow s tCmpl false 0xC5 [src, dst] resolveDirect

/-- `STB`, `C6 ptr|A src` (R263): Indirect, R129. -/
def execStbInd (src ptr : Byte) (s : State) : Host.Outcome State Fault Refusal :=
  runRow s tStbInd false 0xC6 [ptr, src] resolveIndirect

/-- `STB`, `C7 base|L off[lo (hi)] src` (R263): Indexed, R130, R131. -/
def execStbIdx (src base : Byte) (off : IndexOffset) (s : State) :
    Host.Outcome State Fault Refusal :=
  runRow s tStbIdx false 0xC7 (base :: offsetBytes off ++ [src]) resolveIndexed

/-- `PUSH`, `C8 src` (R265): Direct, R127. -/
def execPushDir (src : Byte) (s : State) : Host.Outcome State Fault Refusal :=
  runRow s tPushDir false 0xC8 [src] resolveDirect

/-- `PUSH`, `C9 lo hi` (R265): Immediate, R128. -/
def execPushImm (imm : Word) (s : State) : Host.Outcome State Fault Refusal :=
  runRow s tPushImm false 0xC9 [byteOf imm 0, byteOf imm 1] resolveImmediate

/-- `PUSH`, `CA ptr|A` (R265): Indirect, R129. -/
def execPushInd (ptr : Byte) (s : State) : Host.Outcome State Fault Refusal :=
  runRow s tPushInd false 0xCA [ptr] resolveIndirect

/-- `PUSH`, `CB base|L off[lo (hi)]` (R265): Indexed, R130, R131. -/
def execPushIdx (base : Byte) (off : IndexOffset) (s : State) : Host.Outcome State Fault Refusal :=
  runRow s tPushIdx false 0xCB (base :: offsetBytes off) resolveIndexed

/-- `POP`, `CC dst` (R266): Direct, R127. -/
def execPopDir (dst : Byte) (s : State) : Host.Outcome State Fault Refusal :=
  runRow s tPopDir false 0xCC [dst] resolveDirect

/-- `BMOVI`, `CD cnt ptrs` (R267): Direct, R127. -/
def execBmovi (ptrs cnt : Byte) (s : State) : Host.Outcome State Fault Refusal :=
  runRow s tBmovi false 0xCD [cnt, ptrs] resolveDirect

/-- `POP`, `CE ptr|A` (R266): Indirect, R129. -/
def execPopInd (ptr : Byte) (s : State) : Host.Outcome State Fault Refusal :=
  runRow s tPopInd false 0xCE [ptr] resolveIndirect

/-- `POP`, `CF base|L off[lo (hi)]` (R266): Indexed, R130, R131. -/
def execPopIdx (base : Byte) (off : IndexOffset) (s : State) : Host.Outcome State Fault Refusal :=
  runRow s tPopIdx false 0xCF (base :: offsetBytes off) resolveIndexed

end Sys2Proof.Machine
end

