-- ==== Sys2Proof/Machine/ExGroup.lean ====
section
/-! DEFINITION. The 0xEx group, 0xE0-0xEF (spec/45_ex_group.md R230-R242).
One meaning per row of spec/opcode_table.json: the row's template, opcode byte, operand bytes and
resolver. -/

namespace Sys2Proof.Machine

/-- `DJNZ`, `E0 cnt disp8` (R231): Djnz, R231. -/
def execDjnz (cnt disp : Byte) (s : State) : Host.Outcome State Fault Refusal :=
  runRow s tDjnz false 0xE0 [cnt, disp] resolveDjnz

/-- `DJNZW`, `E1 cnt disp8` (R232): Djnz, R232. -/
def execDjnzw (cnt disp : Byte) (s : State) : Host.Outcome State Fault Refusal :=
  runRow s tDjnzw false 0xE1 [cnt, disp] resolveDjnz

/-- `TIJMP`, `E2 index mask tbase` (R234): Fixed, R135. -/
def execTijmp (tbase mask index : Byte) (s : State) : Host.Outcome State Fault Refusal :=
  runRow s tTijmp false 0xE2 [index, mask, tbase] resolveFixed

/-- `EBR`, `E3 ptr|E` (R233): BranchIndirect, R233. -/
def execEbr (ptr : Byte) (s : State) : Host.Outcome State Fault Refusal :=
  runRow s tEbr false 0xE3 [ptr] resolveBranchIndirect

/-- `EBMOVI`, `E4 cnt ptrs` (R235): Fixed, R135. -/
def execEbmovi (ptrs cnt : Byte) (s : State) : Host.Outcome State Fault Refusal :=
  runRow s tEbmovi false 0xE4 [cnt, ptrs] resolveFixed

/-- `EJMP`, `E6 d0 d1 d2` (R236): ExtJump, R236. -/
def execEjmp (disp : BitVec 24) (s : State) : Host.Outcome State Fault Refusal :=
  runRow s tEjmp false 0xE6 [byteOf disp 0, byteOf disp 1, byteOf disp 2] resolveExtJump

/-- `LJMP`, `E7 lo hi` (R237): LongJump, R237. -/
def execLjmp (disp : Word) (s : State) : Host.Outcome State Fault Refusal :=
  runRow s tLjmp false 0xE7 [byteOf disp 0, byteOf disp 1] resolveLongJump

/-- `ELD`, `E8 ptr dst` (R239): Extended, R239. -/
def execEldEInd (dst ptr : Byte) (s : State) : Host.Outcome State Fault Refusal :=
  runRow s tEldEInd false 0xE8 [ptr, dst] resolveExtended

/-- `ELD`, `E9 ptr d0 d1 d2 dst` (R239): Extended, R239. -/
def execEldEIdx (dst ptr : Byte) (disp : BitVec 24) (s : State) :
    Host.Outcome State Fault Refusal :=
  runRow s tEldEIdx false 0xE9 [ptr, byteOf disp 0, byteOf disp 1, byteOf disp 2, dst] resolveExtended

/-- `ELDB`, `EA ptr dst` (R240): Extended, R240. -/
def execEldbEInd (dst ptr : Byte) (s : State) : Host.Outcome State Fault Refusal :=
  runRow s tEldbEInd false 0xEA [ptr, dst] resolveExtended

/-- `ELDB`, `EB ptr d0 d1 d2 dst` (R240): Extended, R240. -/
def execEldbEIdx (dst ptr : Byte) (disp : BitVec 24) (s : State) :
    Host.Outcome State Fault Refusal :=
  runRow s tEldbEIdx false 0xEB [ptr, byteOf disp 0, byteOf disp 1, byteOf disp 2, dst] resolveExtended

/-- `DPTS`, `EC` (R241): no operand, R87. -/
def execDpts (s : State) : Host.Outcome State Fault Refusal :=
  runInherent s tDpts 0xEC []

/-- `EPTS`, `ED` (R242): no operand, R87. -/
def execEpts (s : State) : Host.Outcome State Fault Refusal :=
  runInherent s tEpts 0xED []

/-- `LCALL`, `EF lo hi` (R238): LongCall, R238. -/
def execLcall (disp : Word) (s : State) : Host.Outcome State Fault Refusal :=
  runRow s tLcall false 0xEF [byteOf disp 0, byteOf disp 1] resolveLongCall

end Sys2Proof.Machine
end

