-- ==== Sys2Proof/Machine/FxGroup.lean ====
section
/-! DEFINITION. The 0xFx group, 0xF0-0xFF (spec/44_fx_group.md R200-R215).
One meaning per row of spec/opcode_table.json: the row's template, opcode byte, operand bytes and
resolver. -/

namespace Sys2Proof.Machine

/-- `RET`, `F0` (R201): no operand, R87. -/
def execRet (s : State) : Host.Outcome State Fault Refusal :=
  runInherent s tRet 0xF0 []

/-- `ECALL`, `F1 d0 d1 d2` (R202): ExtCall, R200. -/
def execEcall (disp : BitVec 24) (s : State) : Host.Outcome State Fault Refusal :=
  runRow s tEcall false 0xF1 [byteOf disp 0, byteOf disp 1, byteOf disp 2] resolveExtCall

/-- `PUSHF`, `F2` (R203): no operand, R87. -/
def execPushf (s : State) : Host.Outcome State Fault Refusal :=
  runInherent s tPushf 0xF2 []

/-- `POPF`, `F3` (R204): no operand, R87. -/
def execPopf (s : State) : Host.Outcome State Fault Refusal :=
  runInherent s tPopf 0xF3 []

/-- `PUSHA`, `F4` (R205): no operand, R87. -/
def execPusha (s : State) : Host.Outcome State Fault Refusal :=
  runInherent s tPusha 0xF4 []

/-- `POPA`, `F5` (R206): no operand, R87. -/
def execPopa (s : State) : Host.Outcome State Fault Refusal :=
  runInherent s tPopa 0xF5 []

/-- `IDLPD`, `F6 key` (R207): Fixed, R135. -/
def execIdlpd (key : Byte) (s : State) : Host.Outcome State Fault Refusal :=
  runRow s tIdlpd false 0xF6 [key] resolveFixed

/-- `TRAP`, `F7` (R208): no operand, R87. -/
def execTrap (s : State) : Host.Outcome State Fault Refusal :=
  runInherent s tTrap 0xF7 []

/-- `CLRC`, `F8` (R209): no operand, R87. -/
def execClrc (s : State) : Host.Outcome State Fault Refusal :=
  runInherent s tClrc 0xF8 []

/-- `SETC`, `F9` (R210): no operand, R87. -/
def execSetc (s : State) : Host.Outcome State Fault Refusal :=
  runInherent s tSetc 0xF9 []

/-- `DI`, `FA` (R211): no operand, R87. -/
def execDi (s : State) : Host.Outcome State Fault Refusal :=
  runInherent s tDi 0xFA []

/-- `EI`, `FB` (R212): no operand, R87. -/
def execEi (s : State) : Host.Outcome State Fault Refusal :=
  runInherent s tEi 0xFB []

/-- `CLRVT`, `FC` (R213): no operand, R87. -/
def execClrvt (s : State) : Host.Outcome State Fault Refusal :=
  runInherent s tClrvt 0xFC []

/-- `NOP`, `FD` (R214): no operand, R87. -/
def execNop (s : State) : Host.Outcome State Fault Refusal :=
  runInherent s tNop 0xFD []

/-- `RST`, `FF` (R215): no operand, R87. -/
def execRst (s : State) : Host.Outcome State Fault Refusal :=
  runInherent s tRst 0xFF []

end Sys2Proof.Machine
end

