-- ==== Sys2Proof/Machine/LowGroup.lean ====
section
/-! DEFINITION. The low group, 0x00-0x1F (spec/47_low_group.md R280-R309).
One meaning per row of spec/opcode_table.json: the row's template, opcode byte, operand bytes and
resolver. -/

namespace Sys2Proof.Machine

/-- `SKIP`, `00 xx` (R283): no operand, R87. -/
def execSkip (pad : Byte) (s : State) : Host.Outcome State Fault Refusal :=
  runInherent s tSkip 0x00 [pad]

/-- `CLRW`, `01 dst` (R284): LowWalk, R281. -/
def execClrw (dst : Byte) (s : State) : Host.Outcome State Fault Refusal :=
  runRow s tClrw false 0x01 [dst] resolveLowWalk

/-- `NOTW`, `02 dst` (R285): LowWalk, R281. -/
def execNotw (dst : Byte) (s : State) : Host.Outcome State Fault Refusal :=
  runRow s tNotw false 0x02 [dst] resolveLowWalk

/-- `NEGW`, `03 dst` (R286): LowWalk, R281. -/
def execNegw (dst : Byte) (s : State) : Host.Outcome State Fault Refusal :=
  runRow s tNegw false 0x03 [dst] resolveLowWalk

/-- `XCH`, `04 src dst` (R287): LowWalk, R281. -/
def execXchDir (dst src : Byte) (s : State) : Host.Outcome State Fault Refusal :=
  runRow s tXchDir false 0x04 [src, dst] resolveLowWalk

/-- `DECW`, `05 dst` (R288): LowWalk, R281. -/
def execDecw (dst : Byte) (s : State) : Host.Outcome State Fault Refusal :=
  runRow s tDecw false 0x05 [dst] resolveLowWalk

/-- `EXT`, `06 dst` (R289): LowWalk, R281. -/
def execExt (dst : Byte) (s : State) : Host.Outcome State Fault Refusal :=
  runRow s tExt false 0x06 [dst] resolveLowWalk

/-- `INCW`, `07 dst` (R290): LowWalk, R281. -/
def execIncw (dst : Byte) (s : State) : Host.Outcome State Fault Refusal :=
  runRow s tIncw false 0x07 [dst] resolveLowWalk

/-- `SHRW`, `08 cnt dst` (R291): LowWalk, R281. -/
def execShrw (dst cnt : Byte) (s : State) : Host.Outcome State Fault Refusal :=
  runRow s tShrw false 0x08 [cnt, dst] resolveLowWalk

/-- `SHLW`, `09 cnt dst` (R292): LowWalk, R281. -/
def execShlw (dst cnt : Byte) (s : State) : Host.Outcome State Fault Refusal :=
  runRow s tShlw false 0x09 [cnt, dst] resolveLowWalk

/-- `SHRAW`, `0A cnt dst` (R293): LowWalk, R281. -/
def execShraw (dst cnt : Byte) (s : State) : Host.Outcome State Fault Refusal :=
  runRow s tShraw false 0x0A [cnt, dst] resolveLowWalk

/-- `XCH`, `0B base|L off[lo (hi)] dst` (R287): LowWalk, R281.
DESIGN CHOICE: on an ill-formed term, an offset of another width than bit 0 of `base` selects, the
walk is handled all the same, so `Checked` is set and `byte_length` is not the length of `raw`; no
bytes decode to such a term (assumption log, entry 11). -/
def execXchIdx (dst base : Byte) (off : IndexOffset) (s : State) :
    Host.Outcome State Fault Refusal :=
  runRow s tXchIdx false 0x0B (base :: offsetBytes off ++ [dst]) resolveLowWalk

/-- `SHRL`, `0C cnt dst` (R294): LowWalk, R281. -/
def execShrl (dst cnt : Byte) (s : State) : Host.Outcome State Fault Refusal :=
  runRow s tShrl false 0x0C [cnt, dst] resolveLowWalk

/-- `SHLL`, `0D cnt dst` (R295): LowWalk, R281. -/
def execShll (dst cnt : Byte) (s : State) : Host.Outcome State Fault Refusal :=
  runRow s tShll false 0x0D [cnt, dst] resolveLowWalk

/-- `SHRAL`, `0E cnt dst` (R296): LowWalk, R281. -/
def execShral (dst cnt : Byte) (s : State) : Host.Outcome State Fault Refusal :=
  runRow s tShral false 0x0E [cnt, dst] resolveLowWalk

/-- `NORML`, `0F cnt dst` (R297): LowWalk, R281. -/
def execNorml (dst cnt : Byte) (s : State) : Host.Outcome State Fault Refusal :=
  runRow s tNorml false 0x0F [cnt, dst] resolveLowWalk

/-- `CLRB`, `11 dst` (R298): LowWalk, R281. -/
def execClrb (dst : Byte) (s : State) : Host.Outcome State Fault Refusal :=
  runRow s tClrb false 0x11 [dst] resolveLowWalk

/-- `NOTB`, `12 dst` (R299): LowWalk, R281. -/
def execNotb (dst : Byte) (s : State) : Host.Outcome State Fault Refusal :=
  runRow s tNotb false 0x12 [dst] resolveLowWalk

/-- `NEGB`, `13 dst` (R300): LowWalk, R281. -/
def execNegb (dst : Byte) (s : State) : Host.Outcome State Fault Refusal :=
  runRow s tNegb false 0x13 [dst] resolveLowWalk

/-- `XCHB`, `14 src dst` (R301): LowWalk, R281. -/
def execXchbDir (dst src : Byte) (s : State) : Host.Outcome State Fault Refusal :=
  runRow s tXchbDir false 0x14 [src, dst] resolveLowWalk

/-- `DECB`, `15 dst` (R302): LowWalk, R281. -/
def execDecb (dst : Byte) (s : State) : Host.Outcome State Fault Refusal :=
  runRow s tDecb false 0x15 [dst] resolveLowWalk

/-- `EXTB`, `16 dst` (R303): LowWalk, R281. -/
def execExtb (dst : Byte) (s : State) : Host.Outcome State Fault Refusal :=
  runRow s tExtb false 0x16 [dst] resolveLowWalk

/-- `INCB`, `17 dst` (R304): LowWalk, R281. -/
def execIncb (dst : Byte) (s : State) : Host.Outcome State Fault Refusal :=
  runRow s tIncb false 0x17 [dst] resolveLowWalk

/-- `SHRB`, `18 cnt dst` (R305): LowWalk, R281. -/
def execShrb (dst cnt : Byte) (s : State) : Host.Outcome State Fault Refusal :=
  runRow s tShrb false 0x18 [cnt, dst] resolveLowWalk

/-- `SHLB`, `19 cnt dst` (R306): LowWalk, R281. -/
def execShlb (dst cnt : Byte) (s : State) : Host.Outcome State Fault Refusal :=
  runRow s tShlb false 0x19 [cnt, dst] resolveLowWalk

/-- `SHRAB`, `1A cnt dst` (R307): LowWalk, R281. -/
def execShrab (dst cnt : Byte) (s : State) : Host.Outcome State Fault Refusal :=
  runRow s tShrab false 0x1A [cnt, dst] resolveLowWalk

/-- `XCHB`, `1B base|L off[lo (hi)] dst` (R301): LowWalk, R281.
DESIGN CHOICE: on an ill-formed term, an offset of another width than bit 0 of `base` selects, the
walk is handled all the same, so `Checked` is set and `byte_length` is not the length of `raw`; no
bytes decode to such a term (assumption log, entry 11). -/
def execXchbIdx (dst base : Byte) (off : IndexOffset) (s : State) :
    Host.Outcome State Fault Refusal :=
  runRow s tXchbIdx false 0x1B (base :: offsetBytes off ++ [dst]) resolveLowWalk

/-- `EST`, `1C ptr src` (R308): LowWalk, R281. -/
def execEstEInd (src ptr : Byte) (s : State) : Host.Outcome State Fault Refusal :=
  runRow s tEstEInd false 0x1C [ptr, src] resolveLowWalk

/-- `EST`, `1D ptr d0 d1 d2 src` (R308): Extended, R282. -/
def execEstEIdx (src ptr : Byte) (disp : BitVec 24) (s : State) :
    Host.Outcome State Fault Refusal :=
  runRow s tEstEIdx false 0x1D [ptr, byteOf disp 0, byteOf disp 1, byteOf disp 2, src] resolveExtended

/-- `ESTB`, `1E ptr src` (R309): LowWalk, R281. -/
def execEstbEInd (src ptr : Byte) (s : State) : Host.Outcome State Fault Refusal :=
  runRow s tEstbEInd false 0x1E [ptr, src] resolveLowWalk

/-- `ESTB`, `1F ptr d0 d1 d2 src` (R309): Extended, R282. -/
def execEstbEIdx (src ptr : Byte) (disp : BitVec 24) (s : State) :
    Host.Outcome State Fault Refusal :=
  runRow s tEstbEIdx false 0x1F [ptr, byteOf disp 0, byteOf disp 1, byteOf disp 2, src] resolveExtended

end Sys2Proof.Machine
end

