-- ==== Sys2Proof/Machine/MiddleThree.lean ====
section
/-! DEFINITION. The middle group with three operands, 0x40-0x5F (spec/48_middle_group.md R320-R328).
One meaning per row of spec/opcode_table.json: the row's template, opcode byte, operand bytes and
resolver. -/

namespace Sys2Proof.Machine

/-- `AND`, `40 src src1 dst` (R321): Direct, R127. -/
def execAnd3Dir (dst src1 src2 : Byte) (s : State) : Host.Outcome State Fault Refusal :=
  runRow s tAnd3Dir false 0x40 [src2, src1, dst] resolveDirect

/-- `AND`, `41 lo hi src1 dst` (R321): Immediate, R128. -/
def execAnd3Imm (dst src1 : Byte) (imm : Word) (s : State) : Host.Outcome State Fault Refusal :=
  runRow s tAnd3Imm false 0x41 [byteOf imm 0, byteOf imm 1, src1, dst] resolveImmediate

/-- `AND`, `42 ptr|A src1 dst` (R321): Indirect, R129. -/
def execAnd3Ind (dst src1 ptr : Byte) (s : State) : Host.Outcome State Fault Refusal :=
  runRow s tAnd3Ind false 0x42 [ptr, src1, dst] resolveIndirect

/-- `AND`, `43 base|L off[lo (hi)] src1 dst` (R321): Indexed, R130, R131. -/
def execAnd3Idx (dst src1 base : Byte) (off : IndexOffset) (s : State) :
    Host.Outcome State Fault Refusal :=
  runRow s tAnd3Idx false 0x43 (base :: offsetBytes off ++ [src1, dst]) resolveIndexed

/-- `ADD`, `44 src src1 dst` (R322): Direct, R127. -/
def execAdd3Dir (dst src1 src2 : Byte) (s : State) : Host.Outcome State Fault Refusal :=
  runRow s tAdd3Dir false 0x44 [src2, src1, dst] resolveDirect

/-- `ADD`, `45 lo hi src1 dst` (R322): Immediate, R128. -/
def execAdd3Imm (dst src1 : Byte) (imm : Word) (s : State) : Host.Outcome State Fault Refusal :=
  runRow s tAdd3Imm false 0x45 [byteOf imm 0, byteOf imm 1, src1, dst] resolveImmediate

/-- `ADD`, `46 ptr|A src1 dst` (R322): Indirect, R129. -/
def execAdd3Ind (dst src1 ptr : Byte) (s : State) : Host.Outcome State Fault Refusal :=
  runRow s tAdd3Ind false 0x46 [ptr, src1, dst] resolveIndirect

/-- `ADD`, `47 base|L off[lo (hi)] src1 dst` (R322): Indexed, R130, R131. -/
def execAdd3Idx (dst src1 base : Byte) (off : IndexOffset) (s : State) :
    Host.Outcome State Fault Refusal :=
  runRow s tAdd3Idx false 0x47 (base :: offsetBytes off ++ [src1, dst]) resolveIndexed

/-- `SUB`, `48 src src1 dst` (R323): Direct, R127. -/
def execSub3Dir (dst src1 src2 : Byte) (s : State) : Host.Outcome State Fault Refusal :=
  runRow s tSub3Dir false 0x48 [src2, src1, dst] resolveDirect

/-- `SUB`, `49 lo hi src1 dst` (R323): Immediate, R128. -/
def execSub3Imm (dst src1 : Byte) (imm : Word) (s : State) : Host.Outcome State Fault Refusal :=
  runRow s tSub3Imm false 0x49 [byteOf imm 0, byteOf imm 1, src1, dst] resolveImmediate

/-- `SUB`, `4A ptr|A src1 dst` (R323): Indirect, R129. -/
def execSub3Ind (dst src1 ptr : Byte) (s : State) : Host.Outcome State Fault Refusal :=
  runRow s tSub3Ind false 0x4A [ptr, src1, dst] resolveIndirect

/-- `SUB`, `4B base|L off[lo (hi)] src1 dst` (R323): Indexed, R130, R131. -/
def execSub3Idx (dst src1 base : Byte) (off : IndexOffset) (s : State) :
    Host.Outcome State Fault Refusal :=
  runRow s tSub3Idx false 0x4B (base :: offsetBytes off ++ [src1, dst]) resolveIndexed

/-- `MULU`, `4C src src1 dst` (R324): Direct, R127. -/
def execMulu3Dir (dst src1 src2 : Byte) (s : State) : Host.Outcome State Fault Refusal :=
  runRow s tMulu3Dir false 0x4C [src2, src1, dst] resolveDirect

/-- `MULU`, `4D lo hi src1 dst` (R324): Immediate, R128. -/
def execMulu3Imm (dst src1 : Byte) (imm : Word) (s : State) : Host.Outcome State Fault Refusal :=
  runRow s tMulu3Imm false 0x4D [byteOf imm 0, byteOf imm 1, src1, dst] resolveImmediate

/-- `MULU`, `4E ptr|A src1 dst` (R324): Indirect, R129. -/
def execMulu3Ind (dst src1 ptr : Byte) (s : State) : Host.Outcome State Fault Refusal :=
  runRow s tMulu3Ind false 0x4E [ptr, src1, dst] resolveIndirect

/-- `MULU`, `4F base|L off[lo (hi)] src1 dst` (R324): Indexed, R130, R131. -/
def execMulu3Idx (dst src1 base : Byte) (off : IndexOffset) (s : State) :
    Host.Outcome State Fault Refusal :=
  runRow s tMulu3Idx false 0x4F (base :: offsetBytes off ++ [src1, dst]) resolveIndexed

/-- `ANDB`, `50 src src1 dst` (R325): Direct, R127. -/
def execAndb3Dir (dst src1 src2 : Byte) (s : State) : Host.Outcome State Fault Refusal :=
  runRow s tAndb3Dir false 0x50 [src2, src1, dst] resolveDirect

/-- `ANDB`, `51 imm src1 dst` (R325): Immediate, R128. -/
def execAndb3Imm (dst src1 imm : Byte) (s : State) : Host.Outcome State Fault Refusal :=
  runRow s tAndb3Imm false 0x51 [imm, src1, dst] resolveImmediate

/-- `ANDB`, `52 ptr|A src1 dst` (R325): Indirect, R129. -/
def execAndb3Ind (dst src1 ptr : Byte) (s : State) : Host.Outcome State Fault Refusal :=
  runRow s tAndb3Ind false 0x52 [ptr, src1, dst] resolveIndirect

/-- `ANDB`, `53 base|L off[lo (hi)] src1 dst` (R325): Indexed, R130, R131. -/
def execAndb3Idx (dst src1 base : Byte) (off : IndexOffset) (s : State) :
    Host.Outcome State Fault Refusal :=
  runRow s tAndb3Idx false 0x53 (base :: offsetBytes off ++ [src1, dst]) resolveIndexed

/-- `ADDB`, `54 src src1 dst` (R326): Direct, R127. -/
def execAddb3Dir (dst src1 src2 : Byte) (s : State) : Host.Outcome State Fault Refusal :=
  runRow s tAddb3Dir false 0x54 [src2, src1, dst] resolveDirect

/-- `ADDB`, `55 imm src1 dst` (R326): Immediate, R128. -/
def execAddb3Imm (dst src1 imm : Byte) (s : State) : Host.Outcome State Fault Refusal :=
  runRow s tAddb3Imm false 0x55 [imm, src1, dst] resolveImmediate

/-- `ADDB`, `56 ptr|A src1 dst` (R326): Indirect, R129. -/
def execAddb3Ind (dst src1 ptr : Byte) (s : State) : Host.Outcome State Fault Refusal :=
  runRow s tAddb3Ind false 0x56 [ptr, src1, dst] resolveIndirect

/-- `ADDB`, `57 base|L off[lo (hi)] src1 dst` (R326): Indexed, R130, R131. -/
def execAddb3Idx (dst src1 base : Byte) (off : IndexOffset) (s : State) :
    Host.Outcome State Fault Refusal :=
  runRow s tAddb3Idx false 0x57 (base :: offsetBytes off ++ [src1, dst]) resolveIndexed

/-- `SUBB`, `58 src src1 dst` (R327): Direct, R127. -/
def execSubb3Dir (dst src1 src2 : Byte) (s : State) : Host.Outcome State Fault Refusal :=
  runRow s tSubb3Dir false 0x58 [src2, src1, dst] resolveDirect

/-- `SUBB`, `59 imm src1 dst` (R327): Immediate, R128. -/
def execSubb3Imm (dst src1 imm : Byte) (s : State) : Host.Outcome State Fault Refusal :=
  runRow s tSubb3Imm false 0x59 [imm, src1, dst] resolveImmediate

/-- `SUBB`, `5A ptr|A src1 dst` (R327): Indirect, R129. -/
def execSubb3Ind (dst src1 ptr : Byte) (s : State) : Host.Outcome State Fault Refusal :=
  runRow s tSubb3Ind false 0x5A [ptr, src1, dst] resolveIndirect

/-- `SUBB`, `5B base|L off[lo (hi)] src1 dst` (R327): Indexed, R130, R131. -/
def execSubb3Idx (dst src1 base : Byte) (off : IndexOffset) (s : State) :
    Host.Outcome State Fault Refusal :=
  runRow s tSubb3Idx false 0x5B (base :: offsetBytes off ++ [src1, dst]) resolveIndexed

/-- `MULUB`, `5C src src1 dst` (R328): Direct, R127. -/
def execMulub3Dir (dst src1 src2 : Byte) (s : State) : Host.Outcome State Fault Refusal :=
  runRow s tMulub3Dir false 0x5C [src2, src1, dst] resolveDirect

/-- `MULUB`, `5D imm src1 dst` (R328): Immediate, R128. -/
def execMulub3Imm (dst src1 imm : Byte) (s : State) : Host.Outcome State Fault Refusal :=
  runRow s tMulub3Imm false 0x5D [imm, src1, dst] resolveImmediate

/-- `MULUB`, `5E ptr|A src1 dst` (R328): Indirect, R129. -/
def execMulub3Ind (dst src1 ptr : Byte) (s : State) : Host.Outcome State Fault Refusal :=
  runRow s tMulub3Ind false 0x5E [ptr, src1, dst] resolveIndirect

/-- `MULUB`, `5F base|L off[lo (hi)] src1 dst` (R328): Indexed, R130, R131. -/
def execMulub3Idx (dst src1 base : Byte) (off : IndexOffset) (s : State) :
    Host.Outcome State Fault Refusal :=
  runRow s tMulub3Idx false 0x5F (base :: offsetBytes off ++ [src1, dst]) resolveIndexed

end Sys2Proof.Machine
end

