-- ==== Sys2Proof/Machine/MiddleTwo.lean ====
section
/-! DEFINITION. The middle group with two operands, 0x60-0xBF (spec/48_middle_group.md R329-R336,
spec/49_middle_group_signed.md R337-R352).
One meaning per row of spec/opcode_table.json: the row's template, opcode byte, operand bytes and
resolver. -/

namespace Sys2Proof.Machine

/-- `AND`, `60 src dst` (R329): Direct, R127. -/
def execAndDir (dst src : Byte) (s : State) : Host.Outcome State Fault Refusal :=
  runRow s tAndDir false 0x60 [src, dst] resolveDirect

/-- `AND`, `61 lo hi dst` (R329): Immediate, R128. -/
def execAndImm (dst : Byte) (imm : Word) (s : State) : Host.Outcome State Fault Refusal :=
  runRow s tAndImm false 0x61 [byteOf imm 0, byteOf imm 1, dst] resolveImmediate

/-- `AND`, `62 ptr|A dst` (R329): Indirect, R129. -/
def execAndInd (dst ptr : Byte) (s : State) : Host.Outcome State Fault Refusal :=
  runRow s tAndInd false 0x62 [ptr, dst] resolveIndirect

/-- `AND`, `63 base|L off[lo (hi)] dst` (R329): Indexed, R130, R131. -/
def execAndIdx (dst base : Byte) (off : IndexOffset) (s : State) :
    Host.Outcome State Fault Refusal :=
  runRow s tAndIdx false 0x63 (base :: offsetBytes off ++ [dst]) resolveIndexed

/-- `ADD`, `64 src dst` (R330): Direct, R127. -/
def execAddDir (dst src : Byte) (s : State) : Host.Outcome State Fault Refusal :=
  runRow s tAddDir false 0x64 [src, dst] resolveDirect

/-- `ADD`, `65 lo hi dst` (R330): Immediate, R128. -/
def execAddImm (dst : Byte) (imm : Word) (s : State) : Host.Outcome State Fault Refusal :=
  runRow s tAddImm false 0x65 [byteOf imm 0, byteOf imm 1, dst] resolveImmediate

/-- `ADD`, `66 ptr|A dst` (R330): Indirect, R129. -/
def execAddInd (dst ptr : Byte) (s : State) : Host.Outcome State Fault Refusal :=
  runRow s tAddInd false 0x66 [ptr, dst] resolveIndirect

/-- `ADD`, `67 base|L off[lo (hi)] dst` (R330): Indexed, R130, R131. -/
def execAddIdx (dst base : Byte) (off : IndexOffset) (s : State) :
    Host.Outcome State Fault Refusal :=
  runRow s tAddIdx false 0x67 (base :: offsetBytes off ++ [dst]) resolveIndexed

/-- `SUB`, `68 src dst` (R331): Direct, R127. -/
def execSubDir (dst src : Byte) (s : State) : Host.Outcome State Fault Refusal :=
  runRow s tSubDir false 0x68 [src, dst] resolveDirect

/-- `SUB`, `69 lo hi dst` (R331): Immediate, R128. -/
def execSubImm (dst : Byte) (imm : Word) (s : State) : Host.Outcome State Fault Refusal :=
  runRow s tSubImm false 0x69 [byteOf imm 0, byteOf imm 1, dst] resolveImmediate

/-- `SUB`, `6A ptr|A dst` (R331): Indirect, R129. -/
def execSubInd (dst ptr : Byte) (s : State) : Host.Outcome State Fault Refusal :=
  runRow s tSubInd false 0x6A [ptr, dst] resolveIndirect

/-- `SUB`, `6B base|L off[lo (hi)] dst` (R331): Indexed, R130, R131. -/
def execSubIdx (dst base : Byte) (off : IndexOffset) (s : State) :
    Host.Outcome State Fault Refusal :=
  runRow s tSubIdx false 0x6B (base :: offsetBytes off ++ [dst]) resolveIndexed

/-- `MULU`, `6C src dst` (R332): Direct, R127. -/
def execMuluDir (dst src : Byte) (s : State) : Host.Outcome State Fault Refusal :=
  runRow s tMuluDir false 0x6C [src, dst] resolveDirect

/-- `MULU`, `6D lo hi dst` (R332): Immediate, R128. -/
def execMuluImm (dst : Byte) (imm : Word) (s : State) : Host.Outcome State Fault Refusal :=
  runRow s tMuluImm false 0x6D [byteOf imm 0, byteOf imm 1, dst] resolveImmediate

/-- `MULU`, `6E ptr|A dst` (R332): Indirect, R129. -/
def execMuluInd (dst ptr : Byte) (s : State) : Host.Outcome State Fault Refusal :=
  runRow s tMuluInd false 0x6E [ptr, dst] resolveIndirect

/-- `MULU`, `6F base|L off[lo (hi)] dst` (R332): Indexed, R130, R131. -/
def execMuluIdx (dst base : Byte) (off : IndexOffset) (s : State) :
    Host.Outcome State Fault Refusal :=
  runRow s tMuluIdx false 0x6F (base :: offsetBytes off ++ [dst]) resolveIndexed

/-- `ANDB`, `70 src dst` (R333): Direct, R127. -/
def execAndbDir (dst src : Byte) (s : State) : Host.Outcome State Fault Refusal :=
  runRow s tAndbDir false 0x70 [src, dst] resolveDirect

/-- `ANDB`, `71 imm dst` (R333): Immediate, R128. -/
def execAndbImm (dst imm : Byte) (s : State) : Host.Outcome State Fault Refusal :=
  runRow s tAndbImm false 0x71 [imm, dst] resolveImmediate

/-- `ANDB`, `72 ptr|A dst` (R333): Indirect, R129. -/
def execAndbInd (dst ptr : Byte) (s : State) : Host.Outcome State Fault Refusal :=
  runRow s tAndbInd false 0x72 [ptr, dst] resolveIndirect

/-- `ANDB`, `73 base|L off[lo (hi)] dst` (R333): Indexed, R130, R131. -/
def execAndbIdx (dst base : Byte) (off : IndexOffset) (s : State) :
    Host.Outcome State Fault Refusal :=
  runRow s tAndbIdx false 0x73 (base :: offsetBytes off ++ [dst]) resolveIndexed

/-- `ADDB`, `74 src dst` (R334): Direct, R127. -/
def execAddbDir (dst src : Byte) (s : State) : Host.Outcome State Fault Refusal :=
  runRow s tAddbDir false 0x74 [src, dst] resolveDirect

/-- `ADDB`, `75 imm dst` (R334): Immediate, R128. -/
def execAddbImm (dst imm : Byte) (s : State) : Host.Outcome State Fault Refusal :=
  runRow s tAddbImm false 0x75 [imm, dst] resolveImmediate

/-- `ADDB`, `76 ptr|A dst` (R334): Indirect, R129. -/
def execAddbInd (dst ptr : Byte) (s : State) : Host.Outcome State Fault Refusal :=
  runRow s tAddbInd false 0x76 [ptr, dst] resolveIndirect

/-- `ADDB`, `77 base|L off[lo (hi)] dst` (R334): Indexed, R130, R131. -/
def execAddbIdx (dst base : Byte) (off : IndexOffset) (s : State) :
    Host.Outcome State Fault Refusal :=
  runRow s tAddbIdx false 0x77 (base :: offsetBytes off ++ [dst]) resolveIndexed

/-- `SUBB`, `78 src dst` (R335): Direct, R127. -/
def execSubbDir (dst src : Byte) (s : State) : Host.Outcome State Fault Refusal :=
  runRow s tSubbDir false 0x78 [src, dst] resolveDirect

/-- `SUBB`, `79 imm dst` (R335): Immediate, R128. -/
def execSubbImm (dst imm : Byte) (s : State) : Host.Outcome State Fault Refusal :=
  runRow s tSubbImm false 0x79 [imm, dst] resolveImmediate

/-- `SUBB`, `7A ptr|A dst` (R335): Indirect, R129. -/
def execSubbInd (dst ptr : Byte) (s : State) : Host.Outcome State Fault Refusal :=
  runRow s tSubbInd false 0x7A [ptr, dst] resolveIndirect

/-- `SUBB`, `7B base|L off[lo (hi)] dst` (R335): Indexed, R130, R131. -/
def execSubbIdx (dst base : Byte) (off : IndexOffset) (s : State) :
    Host.Outcome State Fault Refusal :=
  runRow s tSubbIdx false 0x7B (base :: offsetBytes off ++ [dst]) resolveIndexed

/-- `MULUB`, `7C src dst` (R336): Direct, R127. -/
def execMulubDir (dst src : Byte) (s : State) : Host.Outcome State Fault Refusal :=
  runRow s tMulubDir false 0x7C [src, dst] resolveDirect

/-- `MULUB`, `7D imm dst` (R336): Immediate, R128. -/
def execMulubImm (dst imm : Byte) (s : State) : Host.Outcome State Fault Refusal :=
  runRow s tMulubImm false 0x7D [imm, dst] resolveImmediate

/-- `MULUB`, `7E ptr|A dst` (R336): Indirect, R129. -/
def execMulubInd (dst ptr : Byte) (s : State) : Host.Outcome State Fault Refusal :=
  runRow s tMulubInd false 0x7E [ptr, dst] resolveIndirect

/-- `MULUB`, `7F base|L off[lo (hi)] dst` (R336): Indexed, R130, R131. -/
def execMulubIdx (dst base : Byte) (off : IndexOffset) (s : State) :
    Host.Outcome State Fault Refusal :=
  runRow s tMulubIdx false 0x7F (base :: offsetBytes off ++ [dst]) resolveIndexed

/-- `OR`, `80 src dst` (R337): Direct, R127. -/
def execOrDir (dst src : Byte) (s : State) : Host.Outcome State Fault Refusal :=
  runRow s tOrDir false 0x80 [src, dst] resolveDirect

/-- `OR`, `81 lo hi dst` (R337): Immediate, R128. -/
def execOrImm (dst : Byte) (imm : Word) (s : State) : Host.Outcome State Fault Refusal :=
  runRow s tOrImm false 0x81 [byteOf imm 0, byteOf imm 1, dst] resolveImmediate

/-- `OR`, `82 ptr|A dst` (R337): Indirect, R129. -/
def execOrInd (dst ptr : Byte) (s : State) : Host.Outcome State Fault Refusal :=
  runRow s tOrInd false 0x82 [ptr, dst] resolveIndirect

/-- `OR`, `83 base|L off[lo (hi)] dst` (R337): Indexed, R130, R131. -/
def execOrIdx (dst base : Byte) (off : IndexOffset) (s : State) :
    Host.Outcome State Fault Refusal :=
  runRow s tOrIdx false 0x83 (base :: offsetBytes off ++ [dst]) resolveIndexed

/-- `XOR`, `84 src dst` (R338): Direct, R127. -/
def execXorDir (dst src : Byte) (s : State) : Host.Outcome State Fault Refusal :=
  runRow s tXorDir false 0x84 [src, dst] resolveDirect

/-- `XOR`, `85 lo hi dst` (R338): Immediate, R128. -/
def execXorImm (dst : Byte) (imm : Word) (s : State) : Host.Outcome State Fault Refusal :=
  runRow s tXorImm false 0x85 [byteOf imm 0, byteOf imm 1, dst] resolveImmediate

/-- `XOR`, `86 ptr|A dst` (R338): Indirect, R129. -/
def execXorInd (dst ptr : Byte) (s : State) : Host.Outcome State Fault Refusal :=
  runRow s tXorInd false 0x86 [ptr, dst] resolveIndirect

/-- `XOR`, `87 base|L off[lo (hi)] dst` (R338): Indexed, R130, R131. -/
def execXorIdx (dst base : Byte) (off : IndexOffset) (s : State) :
    Host.Outcome State Fault Refusal :=
  runRow s tXorIdx false 0x87 (base :: offsetBytes off ++ [dst]) resolveIndexed

/-- `CMP`, `88 src dst` (R339): Direct, R127. -/
def execCmpDir (dst src : Byte) (s : State) : Host.Outcome State Fault Refusal :=
  runRow s tCmpDir false 0x88 [src, dst] resolveDirect

/-- `CMP`, `89 lo hi dst` (R339): Immediate, R128. -/
def execCmpImm (dst : Byte) (imm : Word) (s : State) : Host.Outcome State Fault Refusal :=
  runRow s tCmpImm false 0x89 [byteOf imm 0, byteOf imm 1, dst] resolveImmediate

/-- `CMP`, `8A ptr|A dst` (R339): Indirect, R129. -/
def execCmpInd (dst ptr : Byte) (s : State) : Host.Outcome State Fault Refusal :=
  runRow s tCmpInd false 0x8A [ptr, dst] resolveIndirect

/-- `CMP`, `8B base|L off[lo (hi)] dst` (R339): Indexed, R130, R131. -/
def execCmpIdx (dst base : Byte) (off : IndexOffset) (s : State) :
    Host.Outcome State Fault Refusal :=
  runRow s tCmpIdx false 0x8B (base :: offsetBytes off ++ [dst]) resolveIndexed

/-- `DIVU`, `8C src dst` (R340): Direct, R127. -/
def execDivuDir (dst src : Byte) (s : State) : Host.Outcome State Fault Refusal :=
  runRow s tDivuDir false 0x8C [src, dst] resolveDirect

/-- `DIVU`, `8D lo hi dst` (R340): Immediate, R128. -/
def execDivuImm (dst : Byte) (imm : Word) (s : State) : Host.Outcome State Fault Refusal :=
  runRow s tDivuImm false 0x8D [byteOf imm 0, byteOf imm 1, dst] resolveImmediate

/-- `DIVU`, `8E ptr|A dst` (R340): Indirect, R129. -/
def execDivuInd (dst ptr : Byte) (s : State) : Host.Outcome State Fault Refusal :=
  runRow s tDivuInd false 0x8E [ptr, dst] resolveIndirect

/-- `DIVU`, `8F base|L off[lo (hi)] dst` (R340): Indexed, R130, R131. -/
def execDivuIdx (dst base : Byte) (off : IndexOffset) (s : State) :
    Host.Outcome State Fault Refusal :=
  runRow s tDivuIdx false 0x8F (base :: offsetBytes off ++ [dst]) resolveIndexed

/-- `ORB`, `90 src dst` (R341): Direct, R127. -/
def execOrbDir (dst src : Byte) (s : State) : Host.Outcome State Fault Refusal :=
  runRow s tOrbDir false 0x90 [src, dst] resolveDirect

/-- `ORB`, `91 imm dst` (R341): Immediate, R128. -/
def execOrbImm (dst imm : Byte) (s : State) : Host.Outcome State Fault Refusal :=
  runRow s tOrbImm false 0x91 [imm, dst] resolveImmediate

/-- `ORB`, `92 ptr|A dst` (R341): Indirect, R129. -/
def execOrbInd (dst ptr : Byte) (s : State) : Host.Outcome State Fault Refusal :=
  runRow s tOrbInd false 0x92 [ptr, dst] resolveIndirect

/-- `ORB`, `93 base|L off[lo (hi)] dst` (R341): Indexed, R130, R131. -/
def execOrbIdx (dst base : Byte) (off : IndexOffset) (s : State) :
    Host.Outcome State Fault Refusal :=
  runRow s tOrbIdx false 0x93 (base :: offsetBytes off ++ [dst]) resolveIndexed

/-- `XORB`, `94 src dst` (R342): Direct, R127. -/
def execXorbDir (dst src : Byte) (s : State) : Host.Outcome State Fault Refusal :=
  runRow s tXorbDir false 0x94 [src, dst] resolveDirect

/-- `XORB`, `95 imm dst` (R342): Immediate, R128. -/
def execXorbImm (dst imm : Byte) (s : State) : Host.Outcome State Fault Refusal :=
  runRow s tXorbImm false 0x95 [imm, dst] resolveImmediate

/-- `XORB`, `96 ptr|A dst` (R342): Indirect, R129. -/
def execXorbInd (dst ptr : Byte) (s : State) : Host.Outcome State Fault Refusal :=
  runRow s tXorbInd false 0x96 [ptr, dst] resolveIndirect

/-- `XORB`, `97 base|L off[lo (hi)] dst` (R342): Indexed, R130, R131. -/
def execXorbIdx (dst base : Byte) (off : IndexOffset) (s : State) :
    Host.Outcome State Fault Refusal :=
  runRow s tXorbIdx false 0x97 (base :: offsetBytes off ++ [dst]) resolveIndexed

/-- `CMPB`, `98 src dst` (R343): Direct, R127. -/
def execCmpbDir (dst src : Byte) (s : State) : Host.Outcome State Fault Refusal :=
  runRow s tCmpbDir false 0x98 [src, dst] resolveDirect

/-- `CMPB`, `99 imm dst` (R343): Immediate, R128. -/
def execCmpbImm (dst imm : Byte) (s : State) : Host.Outcome State Fault Refusal :=
  runRow s tCmpbImm false 0x99 [imm, dst] resolveImmediate

/-- `CMPB`, `9A ptr|A dst` (R343): Indirect, R129. -/
def execCmpbInd (dst ptr : Byte) (s : State) : Host.Outcome State Fault Refusal :=
  runRow s tCmpbInd false 0x9A [ptr, dst] resolveIndirect

/-- `CMPB`, `9B base|L off[lo (hi)] dst` (R343): Indexed, R130, R131. -/
def execCmpbIdx (dst base : Byte) (off : IndexOffset) (s : State) :
    Host.Outcome State Fault Refusal :=
  runRow s tCmpbIdx false 0x9B (base :: offsetBytes off ++ [dst]) resolveIndexed

/-- `DIVUB`, `9C src dst` (R344): Direct, R127. -/
def execDivubDir (dst src : Byte) (s : State) : Host.Outcome State Fault Refusal :=
  runRow s tDivubDir false 0x9C [src, dst] resolveDirect

/-- `DIVUB`, `9D imm dst` (R344): Immediate, R128. -/
def execDivubImm (dst imm : Byte) (s : State) : Host.Outcome State Fault Refusal :=
  runRow s tDivubImm false 0x9D [imm, dst] resolveImmediate

/-- `DIVUB`, `9E ptr|A dst` (R344): Indirect, R129. -/
def execDivubInd (dst ptr : Byte) (s : State) : Host.Outcome State Fault Refusal :=
  runRow s tDivubInd false 0x9E [ptr, dst] resolveIndirect

/-- `DIVUB`, `9F base|L off[lo (hi)] dst` (R344): Indexed, R130, R131. -/
def execDivubIdx (dst base : Byte) (off : IndexOffset) (s : State) :
    Host.Outcome State Fault Refusal :=
  runRow s tDivubIdx false 0x9F (base :: offsetBytes off ++ [dst]) resolveIndexed

/-- `LD`, `A0 src dst` (R345): Direct, R127. -/
def execLdDir (dst src : Byte) (s : State) : Host.Outcome State Fault Refusal :=
  runRow s tLdDir false 0xA0 [src, dst] resolveDirect

/-- `LD`, `A1 lo hi dst` (R345): Immediate, R128. -/
def execLdImm (dst : Byte) (imm : Word) (s : State) : Host.Outcome State Fault Refusal :=
  runRow s tLdImm false 0xA1 [byteOf imm 0, byteOf imm 1, dst] resolveImmediate

/-- `LD`, `A2 ptr|A dst` (R345): Indirect, R129. -/
def execLdInd (dst ptr : Byte) (s : State) : Host.Outcome State Fault Refusal :=
  runRow s tLdInd false 0xA2 [ptr, dst] resolveIndirect

/-- `LD`, `A3 base|L off[lo (hi)] dst` (R345): Indexed, R130, R131. -/
def execLdIdx (dst base : Byte) (off : IndexOffset) (s : State) :
    Host.Outcome State Fault Refusal :=
  runRow s tLdIdx false 0xA3 (base :: offsetBytes off ++ [dst]) resolveIndexed

/-- `ADDC`, `A4 src dst` (R346): Direct, R127. -/
def execAddcDir (dst src : Byte) (s : State) : Host.Outcome State Fault Refusal :=
  runRow s tAddcDir false 0xA4 [src, dst] resolveDirect

/-- `ADDC`, `A5 lo hi dst` (R346): Immediate, R128. -/
def execAddcImm (dst : Byte) (imm : Word) (s : State) : Host.Outcome State Fault Refusal :=
  runRow s tAddcImm false 0xA5 [byteOf imm 0, byteOf imm 1, dst] resolveImmediate

/-- `ADDC`, `A6 ptr|A dst` (R346): Indirect, R129. -/
def execAddcInd (dst ptr : Byte) (s : State) : Host.Outcome State Fault Refusal :=
  runRow s tAddcInd false 0xA6 [ptr, dst] resolveIndirect

/-- `ADDC`, `A7 base|L off[lo (hi)] dst` (R346): Indexed, R130, R131. -/
def execAddcIdx (dst base : Byte) (off : IndexOffset) (s : State) :
    Host.Outcome State Fault Refusal :=
  runRow s tAddcIdx false 0xA7 (base :: offsetBytes off ++ [dst]) resolveIndexed

/-- `SUBC`, `A8 src dst` (R347): Direct, R127. -/
def execSubcDir (dst src : Byte) (s : State) : Host.Outcome State Fault Refusal :=
  runRow s tSubcDir false 0xA8 [src, dst] resolveDirect

/-- `SUBC`, `A9 lo hi dst` (R347): Immediate, R128. -/
def execSubcImm (dst : Byte) (imm : Word) (s : State) : Host.Outcome State Fault Refusal :=
  runRow s tSubcImm false 0xA9 [byteOf imm 0, byteOf imm 1, dst] resolveImmediate

/-- `SUBC`, `AA ptr|A dst` (R347): Indirect, R129. -/
def execSubcInd (dst ptr : Byte) (s : State) : Host.Outcome State Fault Refusal :=
  runRow s tSubcInd false 0xAA [ptr, dst] resolveIndirect

/-- `SUBC`, `AB base|L off[lo (hi)] dst` (R347): Indexed, R130, R131. -/
def execSubcIdx (dst base : Byte) (off : IndexOffset) (s : State) :
    Host.Outcome State Fault Refusal :=
  runRow s tSubcIdx false 0xAB (base :: offsetBytes off ++ [dst]) resolveIndexed

/-- `LDBZE`, `AC src dst` (R348): Direct, R127. -/
def execLdbzeDir (dst src : Byte) (s : State) : Host.Outcome State Fault Refusal :=
  runRow s tLdbzeDir false 0xAC [src, dst] resolveDirect

/-- `LDBZE`, `AD imm dst` (R348): Immediate, R128. -/
def execLdbzeImm (dst imm : Byte) (s : State) : Host.Outcome State Fault Refusal :=
  runRow s tLdbzeImm false 0xAD [imm, dst] resolveImmediate

/-- `LDBZE`, `AE ptr|A dst` (R348): Indirect, R129. -/
def execLdbzeInd (dst ptr : Byte) (s : State) : Host.Outcome State Fault Refusal :=
  runRow s tLdbzeInd false 0xAE [ptr, dst] resolveIndirect

/-- `LDBZE`, `AF base|L off[lo (hi)] dst` (R348): Indexed, R130, R131. -/
def execLdbzeIdx (dst base : Byte) (off : IndexOffset) (s : State) :
    Host.Outcome State Fault Refusal :=
  runRow s tLdbzeIdx false 0xAF (base :: offsetBytes off ++ [dst]) resolveIndexed

/-- `LDB`, `B0 src dst` (R349): Direct, R127. -/
def execLdbDir (dst src : Byte) (s : State) : Host.Outcome State Fault Refusal :=
  runRow s tLdbDir false 0xB0 [src, dst] resolveDirect

/-- `LDB`, `B1 imm dst` (R349): Immediate, R128. -/
def execLdbImm (dst imm : Byte) (s : State) : Host.Outcome State Fault Refusal :=
  runRow s tLdbImm false 0xB1 [imm, dst] resolveImmediate

/-- `LDB`, `B2 ptr|A dst` (R349): Indirect, R129. -/
def execLdbInd (dst ptr : Byte) (s : State) : Host.Outcome State Fault Refusal :=
  runRow s tLdbInd false 0xB2 [ptr, dst] resolveIndirect

/-- `LDB`, `B3 base|L off[lo (hi)] dst` (R349): Indexed, R130, R131. -/
def execLdbIdx (dst base : Byte) (off : IndexOffset) (s : State) :
    Host.Outcome State Fault Refusal :=
  runRow s tLdbIdx false 0xB3 (base :: offsetBytes off ++ [dst]) resolveIndexed

/-- `ADDCB`, `B4 src dst` (R350): Direct, R127. -/
def execAddcbDir (dst src : Byte) (s : State) : Host.Outcome State Fault Refusal :=
  runRow s tAddcbDir false 0xB4 [src, dst] resolveDirect

/-- `ADDCB`, `B5 imm dst` (R350): Immediate, R128. -/
def execAddcbImm (dst imm : Byte) (s : State) : Host.Outcome State Fault Refusal :=
  runRow s tAddcbImm false 0xB5 [imm, dst] resolveImmediate

/-- `ADDCB`, `B6 ptr|A dst` (R350): Indirect, R129. -/
def execAddcbInd (dst ptr : Byte) (s : State) : Host.Outcome State Fault Refusal :=
  runRow s tAddcbInd false 0xB6 [ptr, dst] resolveIndirect

/-- `ADDCB`, `B7 base|L off[lo (hi)] dst` (R350): Indexed, R130, R131. -/
def execAddcbIdx (dst base : Byte) (off : IndexOffset) (s : State) :
    Host.Outcome State Fault Refusal :=
  runRow s tAddcbIdx false 0xB7 (base :: offsetBytes off ++ [dst]) resolveIndexed

/-- `SUBCB`, `B8 src dst` (R351): Direct, R127. -/
def execSubcbDir (dst src : Byte) (s : State) : Host.Outcome State Fault Refusal :=
  runRow s tSubcbDir false 0xB8 [src, dst] resolveDirect

/-- `SUBCB`, `B9 imm dst` (R351): Immediate, R128. -/
def execSubcbImm (dst imm : Byte) (s : State) : Host.Outcome State Fault Refusal :=
  runRow s tSubcbImm false 0xB9 [imm, dst] resolveImmediate

/-- `SUBCB`, `BA ptr|A dst` (R351): Indirect, R129. -/
def execSubcbInd (dst ptr : Byte) (s : State) : Host.Outcome State Fault Refusal :=
  runRow s tSubcbInd false 0xBA [ptr, dst] resolveIndirect

/-- `SUBCB`, `BB base|L off[lo (hi)] dst` (R351): Indexed, R130, R131. -/
def execSubcbIdx (dst base : Byte) (off : IndexOffset) (s : State) :
    Host.Outcome State Fault Refusal :=
  runRow s tSubcbIdx false 0xBB (base :: offsetBytes off ++ [dst]) resolveIndexed

/-- `LDBSE`, `BC src dst` (R352): Direct, R127. -/
def execLdbseDir (dst src : Byte) (s : State) : Host.Outcome State Fault Refusal :=
  runRow s tLdbseDir false 0xBC [src, dst] resolveDirect

/-- `LDBSE`, `BD imm dst` (R352): Immediate, R128. -/
def execLdbseImm (dst imm : Byte) (s : State) : Host.Outcome State Fault Refusal :=
  runRow s tLdbseImm false 0xBD [imm, dst] resolveImmediate

/-- `LDBSE`, `BE ptr|A dst` (R352): Indirect, R129. -/
def execLdbseInd (dst ptr : Byte) (s : State) : Host.Outcome State Fault Refusal :=
  runRow s tLdbseInd false 0xBE [ptr, dst] resolveIndirect

/-- `LDBSE`, `BF base|L off[lo (hi)] dst` (R352): Indexed, R130, R131. -/
def execLdbseIdx (dst base : Byte) (off : IndexOffset) (s : State) :
    Host.Outcome State Fault Refusal :=
  runRow s tLdbseIdx false 0xBF (base :: offsetBytes off ++ [dst]) resolveIndexed

end Sys2Proof.Machine
end

