-- ==== Sys2Proof/Machine/ShortJump.lean ====
section
/-! DEFINITION. Short jump and short call, 0x20-0x2F (spec/41_short_jump_call.md R160-R162).
One meaning per row of spec/opcode_table.json: the row's template, opcode byte, operand bytes and
resolver. -/

namespace Sys2Proof.Machine

/-- `SJMP`, `0010_0hhh lo` (R161): ShortJump, R160. -/
def execSjmp (disp : BitVec 11) (s : State) : Host.Outcome State Fault Refusal :=
  runRow s tSjmp false (0x20 ||| (disp.extractLsb' 8 3).setWidth 8) [byteOf disp 0] resolveShortJump

/-- `SCALL`, `0010_1hhh lo` (R162): ShortCall, R160. -/
def execScall (disp : BitVec 11) (s : State) : Host.Outcome State Fault Refusal :=
  runRow s tScall false (0x28 ||| (disp.extractLsb' 8 3).setWidth 8) [byteOf disp 0] resolveShortCall

end Sys2Proof.Machine
end

