-- ==== Sys2Proof/Machine/Signed.lean ====
section
/-! DEFINITION. The signed instructions, 0xFE and an opcode (spec/49_middle_group_signed.md R359-R365).
One meaning per row of spec/opcode_table.json: the row's template, opcode byte, operand bytes and
resolver. -/

namespace Sys2Proof.Machine

/-- `MUL`, `FE 4C src src1 dst` (R360): Direct, R127. -/
def execMul3Dir (dst src1 src2 : Byte) (s : State) : Host.Outcome State Fault Refusal :=
  runRow s tMul3Dir true 0x4C [src2, src1, dst] resolveDirect

/-- `MUL`, `FE 4D lo hi src1 dst` (R360): Immediate, R128. -/
def execMul3Imm (dst src1 : Byte) (imm : Word) (s : State) : Host.Outcome State Fault Refusal :=
  runRow s tMul3Imm true 0x4D [byteOf imm 0, byteOf imm 1, src1, dst] resolveImmediate

/-- `MUL`, `FE 4E ptr|A src1 dst` (R360): Indirect, R129. -/
def execMul3Ind (dst src1 ptr : Byte) (s : State) : Host.Outcome State Fault Refusal :=
  runRow s tMul3Ind true 0x4E [ptr, src1, dst] resolveIndirect

/-- `MUL`, `FE 4F base|L off[lo (hi)] src1 dst` (R360): Indexed, R130, R131. -/
def execMul3Idx (dst src1 base : Byte) (off : IndexOffset) (s : State) :
    Host.Outcome State Fault Refusal :=
  runRow s tMul3Idx true 0x4F (base :: offsetBytes off ++ [src1, dst]) resolveIndexed

/-- `MULB`, `FE 5C src src1 dst` (R361): Direct, R127. -/
def execMulb3Dir (dst src1 src2 : Byte) (s : State) : Host.Outcome State Fault Refusal :=
  runRow s tMulb3Dir true 0x5C [src2, src1, dst] resolveDirect

/-- `MULB`, `FE 5D imm src1 dst` (R361): Immediate, R128. -/
def execMulb3Imm (dst src1 imm : Byte) (s : State) : Host.Outcome State Fault Refusal :=
  runRow s tMulb3Imm true 0x5D [imm, src1, dst] resolveImmediate

/-- `MULB`, `FE 5E ptr|A src1 dst` (R361): Indirect, R129. -/
def execMulb3Ind (dst src1 ptr : Byte) (s : State) : Host.Outcome State Fault Refusal :=
  runRow s tMulb3Ind true 0x5E [ptr, src1, dst] resolveIndirect

/-- `MULB`, `FE 5F base|L off[lo (hi)] src1 dst` (R361): Indexed, R130, R131. -/
def execMulb3Idx (dst src1 base : Byte) (off : IndexOffset) (s : State) :
    Host.Outcome State Fault Refusal :=
  runRow s tMulb3Idx true 0x5F (base :: offsetBytes off ++ [src1, dst]) resolveIndexed

/-- `MUL`, `FE 6C src dst` (R362): Direct, R127. -/
def execMulDir (dst src : Byte) (s : State) : Host.Outcome State Fault Refusal :=
  runRow s tMulDir true 0x6C [src, dst] resolveDirect

/-- `MUL`, `FE 6D lo hi dst` (R362): Immediate, R128. -/
def execMulImm (dst : Byte) (imm : Word) (s : State) : Host.Outcome State Fault Refusal :=
  runRow s tMulImm true 0x6D [byteOf imm 0, byteOf imm 1, dst] resolveImmediate

/-- `MUL`, `FE 6E ptr|A dst` (R362): Indirect, R129. -/
def execMulInd (dst ptr : Byte) (s : State) : Host.Outcome State Fault Refusal :=
  runRow s tMulInd true 0x6E [ptr, dst] resolveIndirect

/-- `MUL`, `FE 6F base|L off[lo (hi)] dst` (R362): Indexed, R130, R131. -/
def execMulIdx (dst base : Byte) (off : IndexOffset) (s : State) :
    Host.Outcome State Fault Refusal :=
  runRow s tMulIdx true 0x6F (base :: offsetBytes off ++ [dst]) resolveIndexed

/-- `MULB`, `FE 7C src dst` (R363): Direct, R127. -/
def execMulbDir (dst src : Byte) (s : State) : Host.Outcome State Fault Refusal :=
  runRow s tMulbDir true 0x7C [src, dst] resolveDirect

/-- `MULB`, `FE 7D imm dst` (R363): Immediate, R128. -/
def execMulbImm (dst imm : Byte) (s : State) : Host.Outcome State Fault Refusal :=
  runRow s tMulbImm true 0x7D [imm, dst] resolveImmediate

/-- `MULB`, `FE 7E ptr|A dst` (R363): Indirect, R129. -/
def execMulbInd (dst ptr : Byte) (s : State) : Host.Outcome State Fault Refusal :=
  runRow s tMulbInd true 0x7E [ptr, dst] resolveIndirect

/-- `MULB`, `FE 7F base|L off[lo (hi)] dst` (R363): Indexed, R130, R131. -/
def execMulbIdx (dst base : Byte) (off : IndexOffset) (s : State) :
    Host.Outcome State Fault Refusal :=
  runRow s tMulbIdx true 0x7F (base :: offsetBytes off ++ [dst]) resolveIndexed

/-- `DIV`, `FE 8C src dst` (R364): Direct, R127. -/
def execDivDir (dst src : Byte) (s : State) : Host.Outcome State Fault Refusal :=
  runRow s tDivDir true 0x8C [src, dst] resolveDirect

/-- `DIV`, `FE 8D lo hi dst` (R364): Immediate, R128. -/
def execDivImm (dst : Byte) (imm : Word) (s : State) : Host.Outcome State Fault Refusal :=
  runRow s tDivImm true 0x8D [byteOf imm 0, byteOf imm 1, dst] resolveImmediate

/-- `DIV`, `FE 8E ptr|A dst` (R364): Indirect, R129. -/
def execDivInd (dst ptr : Byte) (s : State) : Host.Outcome State Fault Refusal :=
  runRow s tDivInd true 0x8E [ptr, dst] resolveIndirect

/-- `DIV`, `FE 8F base|L off[lo (hi)] dst` (R364): Indexed, R130, R131. -/
def execDivIdx (dst base : Byte) (off : IndexOffset) (s : State) :
    Host.Outcome State Fault Refusal :=
  runRow s tDivIdx true 0x8F (base :: offsetBytes off ++ [dst]) resolveIndexed

/-- `DIVB`, `FE 9C src dst` (R365): Direct, R127. -/
def execDivbDir (dst src : Byte) (s : State) : Host.Outcome State Fault Refusal :=
  runRow s tDivbDir true 0x9C [src, dst] resolveDirect

/-- `DIVB`, `FE 9D imm dst` (R365): Immediate, R128. -/
def execDivbImm (dst imm : Byte) (s : State) : Host.Outcome State Fault Refusal :=
  runRow s tDivbImm true 0x9D [imm, dst] resolveImmediate

/-- `DIVB`, `FE 9E ptr|A dst` (R365): Indirect, R129. -/
def execDivbInd (dst ptr : Byte) (s : State) : Host.Outcome State Fault Refusal :=
  runRow s tDivbInd true 0x9E [ptr, dst] resolveIndirect

/-- `DIVB`, `FE 9F base|L off[lo (hi)] dst` (R365): Indexed, R130, R131. -/
def execDivbIdx (dst base : Byte) (off : IndexOffset) (s : State) :
    Host.Outcome State Fault Refusal :=
  runRow s tDivbIdx true 0x9F (base :: offsetBytes off ++ [dst]) resolveIndexed

end Sys2Proof.Machine
end

