-- ==== Sys2Proof/Machine/Dispatch.lean ====
section
/-! DEFINITION. One arm per constructor of Instr: one direct call of its meaning. -/

namespace Sys2Proof.Machine

def exec (i : Instr) (s : State) : Host.Outcome State Fault Refusal :=
  match i with
  | .skip pad => Sys2Proof.Machine.execSkip pad s
  | .clrw dst => Sys2Proof.Machine.execClrw dst s
  | .notw dst => Sys2Proof.Machine.execNotw dst s
  | .negw dst => Sys2Proof.Machine.execNegw dst s
  | .xchDir dst src => Sys2Proof.Machine.execXchDir dst src s
  | .decw dst => Sys2Proof.Machine.execDecw dst s
  | .ext dst => Sys2Proof.Machine.execExt dst s
  | .incw dst => Sys2Proof.Machine.execIncw dst s
  | .shrw dst cnt => Sys2Proof.Machine.execShrw dst cnt s
  | .shlw dst cnt => Sys2Proof.Machine.execShlw dst cnt s
  | .shraw dst cnt => Sys2Proof.Machine.execShraw dst cnt s
  | .xchIdx dst base off => Sys2Proof.Machine.execXchIdx dst base off s
  | .shrl dst cnt => Sys2Proof.Machine.execShrl dst cnt s
  | .shll dst cnt => Sys2Proof.Machine.execShll dst cnt s
  | .shral dst cnt => Sys2Proof.Machine.execShral dst cnt s
  | .norml dst cnt => Sys2Proof.Machine.execNorml dst cnt s
  | .clrb dst => Sys2Proof.Machine.execClrb dst s
  | .notb dst => Sys2Proof.Machine.execNotb dst s
  | .negb dst => Sys2Proof.Machine.execNegb dst s
  | .xchbDir dst src => Sys2Proof.Machine.execXchbDir dst src s
  | .decb dst => Sys2Proof.Machine.execDecb dst s
  | .extb dst => Sys2Proof.Machine.execExtb dst s
  | .incb dst => Sys2Proof.Machine.execIncb dst s
  | .shrb dst cnt => Sys2Proof.Machine.execShrb dst cnt s
  | .shlb dst cnt => Sys2Proof.Machine.execShlb dst cnt s
  | .shrab dst cnt => Sys2Proof.Machine.execShrab dst cnt s
  | .xchbIdx dst base off => Sys2Proof.Machine.execXchbIdx dst base off s
  | .estEInd src ptr => Sys2Proof.Machine.execEstEInd src ptr s
  | .estEIdx src ptr disp => Sys2Proof.Machine.execEstEIdx src ptr disp s
  | .estbEInd src ptr => Sys2Proof.Machine.execEstbEInd src ptr s
  | .estbEIdx src ptr disp => Sys2Proof.Machine.execEstbEIdx src ptr disp s
  | .sjmp disp => Sys2Proof.Machine.execSjmp disp s
  | .scall disp => Sys2Proof.Machine.execScall disp s
  | .jbc bitno reg disp => Sys2Proof.Machine.execJbc bitno reg disp s
  | .jbs bitno reg disp => Sys2Proof.Machine.execJbs bitno reg disp s
  | .and3Dir dst src1 src2 => Sys2Proof.Machine.execAnd3Dir dst src1 src2 s
  | .and3Imm dst src1 imm => Sys2Proof.Machine.execAnd3Imm dst src1 imm s
  | .and3Ind dst src1 ptr => Sys2Proof.Machine.execAnd3Ind dst src1 ptr s
  | .and3Idx dst src1 base off => Sys2Proof.Machine.execAnd3Idx dst src1 base off s
  | .add3Dir dst src1 src2 => Sys2Proof.Machine.execAdd3Dir dst src1 src2 s
  | .add3Imm dst src1 imm => Sys2Proof.Machine.execAdd3Imm dst src1 imm s
  | .add3Ind dst src1 ptr => Sys2Proof.Machine.execAdd3Ind dst src1 ptr s
  | .add3Idx dst src1 base off => Sys2Proof.Machine.execAdd3Idx dst src1 base off s
  | .sub3Dir dst src1 src2 => Sys2Proof.Machine.execSub3Dir dst src1 src2 s
  | .sub3Imm dst src1 imm => Sys2Proof.Machine.execSub3Imm dst src1 imm s
  | .sub3Ind dst src1 ptr => Sys2Proof.Machine.execSub3Ind dst src1 ptr s
  | .sub3Idx dst src1 base off => Sys2Proof.Machine.execSub3Idx dst src1 base off s
  | .mulu3Dir dst src1 src2 => Sys2Proof.Machine.execMulu3Dir dst src1 src2 s
  | .mulu3Imm dst src1 imm => Sys2Proof.Machine.execMulu3Imm dst src1 imm s
  | .mulu3Ind dst src1 ptr => Sys2Proof.Machine.execMulu3Ind dst src1 ptr s
  | .mulu3Idx dst src1 base off => Sys2Proof.Machine.execMulu3Idx dst src1 base off s
  | .andb3Dir dst src1 src2 => Sys2Proof.Machine.execAndb3Dir dst src1 src2 s
  | .andb3Imm dst src1 imm => Sys2Proof.Machine.execAndb3Imm dst src1 imm s
  | .andb3Ind dst src1 ptr => Sys2Proof.Machine.execAndb3Ind dst src1 ptr s
  | .andb3Idx dst src1 base off => Sys2Proof.Machine.execAndb3Idx dst src1 base off s
  | .addb3Dir dst src1 src2 => Sys2Proof.Machine.execAddb3Dir dst src1 src2 s
  | .addb3Imm dst src1 imm => Sys2Proof.Machine.execAddb3Imm dst src1 imm s
  | .addb3Ind dst src1 ptr => Sys2Proof.Machine.execAddb3Ind dst src1 ptr s
  | .addb3Idx dst src1 base off => Sys2Proof.Machine.execAddb3Idx dst src1 base off s
  | .subb3Dir dst src1 src2 => Sys2Proof.Machine.execSubb3Dir dst src1 src2 s
  | .subb3Imm dst src1 imm => Sys2Proof.Machine.execSubb3Imm dst src1 imm s
  | .subb3Ind dst src1 ptr => Sys2Proof.Machine.execSubb3Ind dst src1 ptr s
  | .subb3Idx dst src1 base off => Sys2Proof.Machine.execSubb3Idx dst src1 base off s
  | .mulub3Dir dst src1 src2 => Sys2Proof.Machine.execMulub3Dir dst src1 src2 s
  | .mulub3Imm dst src1 imm => Sys2Proof.Machine.execMulub3Imm dst src1 imm s
  | .mulub3Ind dst src1 ptr => Sys2Proof.Machine.execMulub3Ind dst src1 ptr s
  | .mulub3Idx dst src1 base off => Sys2Proof.Machine.execMulub3Idx dst src1 base off s
  | .andDir dst src => Sys2Proof.Machine.execAndDir dst src s
  | .andImm dst imm => Sys2Proof.Machine.execAndImm dst imm s
  | .andInd dst ptr => Sys2Proof.Machine.execAndInd dst ptr s
  | .andIdx dst base off => Sys2Proof.Machine.execAndIdx dst base off s
  | .addDir dst src => Sys2Proof.Machine.execAddDir dst src s
  | .addImm dst imm => Sys2Proof.Machine.execAddImm dst imm s
  | .addInd dst ptr => Sys2Proof.Machine.execAddInd dst ptr s
  | .addIdx dst base off => Sys2Proof.Machine.execAddIdx dst base off s
  | .subDir dst src => Sys2Proof.Machine.execSubDir dst src s
  | .subImm dst imm => Sys2Proof.Machine.execSubImm dst imm s
  | .subInd dst ptr => Sys2Proof.Machine.execSubInd dst ptr s
  | .subIdx dst base off => Sys2Proof.Machine.execSubIdx dst base off s
  | .muluDir dst src => Sys2Proof.Machine.execMuluDir dst src s
  | .muluImm dst imm => Sys2Proof.Machine.execMuluImm dst imm s
  | .muluInd dst ptr => Sys2Proof.Machine.execMuluInd dst ptr s
  | .muluIdx dst base off => Sys2Proof.Machine.execMuluIdx dst base off s
  | .andbDir dst src => Sys2Proof.Machine.execAndbDir dst src s
  | .andbImm dst imm => Sys2Proof.Machine.execAndbImm dst imm s
  | .andbInd dst ptr => Sys2Proof.Machine.execAndbInd dst ptr s
  | .andbIdx dst base off => Sys2Proof.Machine.execAndbIdx dst base off s
  | .addbDir dst src => Sys2Proof.Machine.execAddbDir dst src s
  | .addbImm dst imm => Sys2Proof.Machine.execAddbImm dst imm s
  | .addbInd dst ptr => Sys2Proof.Machine.execAddbInd dst ptr s
  | .addbIdx dst base off => Sys2Proof.Machine.execAddbIdx dst base off s
  | .subbDir dst src => Sys2Proof.Machine.execSubbDir dst src s
  | .subbImm dst imm => Sys2Proof.Machine.execSubbImm dst imm s
  | .subbInd dst ptr => Sys2Proof.Machine.execSubbInd dst ptr s
  | .subbIdx dst base off => Sys2Proof.Machine.execSubbIdx dst base off s
  | .mulubDir dst src => Sys2Proof.Machine.execMulubDir dst src s
  | .mulubImm dst imm => Sys2Proof.Machine.execMulubImm dst imm s
  | .mulubInd dst ptr => Sys2Proof.Machine.execMulubInd dst ptr s
  | .mulubIdx dst base off => Sys2Proof.Machine.execMulubIdx dst base off s
  | .orDir dst src => Sys2Proof.Machine.execOrDir dst src s
  | .orImm dst imm => Sys2Proof.Machine.execOrImm dst imm s
  | .orInd dst ptr => Sys2Proof.Machine.execOrInd dst ptr s
  | .orIdx dst base off => Sys2Proof.Machine.execOrIdx dst base off s
  | .xorDir dst src => Sys2Proof.Machine.execXorDir dst src s
  | .xorImm dst imm => Sys2Proof.Machine.execXorImm dst imm s
  | .xorInd dst ptr => Sys2Proof.Machine.execXorInd dst ptr s
  | .xorIdx dst base off => Sys2Proof.Machine.execXorIdx dst base off s
  | .cmpDir dst src => Sys2Proof.Machine.execCmpDir dst src s
  | .cmpImm dst imm => Sys2Proof.Machine.execCmpImm dst imm s
  | .cmpInd dst ptr => Sys2Proof.Machine.execCmpInd dst ptr s
  | .cmpIdx dst base off => Sys2Proof.Machine.execCmpIdx dst base off s
  | .divuDir dst src => Sys2Proof.Machine.execDivuDir dst src s
  | .divuImm dst imm => Sys2Proof.Machine.execDivuImm dst imm s
  | .divuInd dst ptr => Sys2Proof.Machine.execDivuInd dst ptr s
  | .divuIdx dst base off => Sys2Proof.Machine.execDivuIdx dst base off s
  | .orbDir dst src => Sys2Proof.Machine.execOrbDir dst src s
  | .orbImm dst imm => Sys2Proof.Machine.execOrbImm dst imm s
  | .orbInd dst ptr => Sys2Proof.Machine.execOrbInd dst ptr s
  | .orbIdx dst base off => Sys2Proof.Machine.execOrbIdx dst base off s
  | .xorbDir dst src => Sys2Proof.Machine.execXorbDir dst src s
  | .xorbImm dst imm => Sys2Proof.Machine.execXorbImm dst imm s
  | .xorbInd dst ptr => Sys2Proof.Machine.execXorbInd dst ptr s
  | .xorbIdx dst base off => Sys2Proof.Machine.execXorbIdx dst base off s
  | .cmpbDir dst src => Sys2Proof.Machine.execCmpbDir dst src s
  | .cmpbImm dst imm => Sys2Proof.Machine.execCmpbImm dst imm s
  | .cmpbInd dst ptr => Sys2Proof.Machine.execCmpbInd dst ptr s
  | .cmpbIdx dst base off => Sys2Proof.Machine.execCmpbIdx dst base off s
  | .divubDir dst src => Sys2Proof.Machine.execDivubDir dst src s
  | .divubImm dst imm => Sys2Proof.Machine.execDivubImm dst imm s
  | .divubInd dst ptr => Sys2Proof.Machine.execDivubInd dst ptr s
  | .divubIdx dst base off => Sys2Proof.Machine.execDivubIdx dst base off s
  | .ldDir dst src => Sys2Proof.Machine.execLdDir dst src s
  | .ldImm dst imm => Sys2Proof.Machine.execLdImm dst imm s
  | .ldInd dst ptr => Sys2Proof.Machine.execLdInd dst ptr s
  | .ldIdx dst base off => Sys2Proof.Machine.execLdIdx dst base off s
  | .addcDir dst src => Sys2Proof.Machine.execAddcDir dst src s
  | .addcImm dst imm => Sys2Proof.Machine.execAddcImm dst imm s
  | .addcInd dst ptr => Sys2Proof.Machine.execAddcInd dst ptr s
  | .addcIdx dst base off => Sys2Proof.Machine.execAddcIdx dst base off s
  | .subcDir dst src => Sys2Proof.Machine.execSubcDir dst src s
  | .subcImm dst imm => Sys2Proof.Machine.execSubcImm dst imm s
  | .subcInd dst ptr => Sys2Proof.Machine.execSubcInd dst ptr s
  | .subcIdx dst base off => Sys2Proof.Machine.execSubcIdx dst base off s
  | .ldbzeDir dst src => Sys2Proof.Machine.execLdbzeDir dst src s
  | .ldbzeImm dst imm => Sys2Proof.Machine.execLdbzeImm dst imm s
  | .ldbzeInd dst ptr => Sys2Proof.Machine.execLdbzeInd dst ptr s
  | .ldbzeIdx dst base off => Sys2Proof.Machine.execLdbzeIdx dst base off s
  | .ldbDir dst src => Sys2Proof.Machine.execLdbDir dst src s
  | .ldbImm dst imm => Sys2Proof.Machine.execLdbImm dst imm s
  | .ldbInd dst ptr => Sys2Proof.Machine.execLdbInd dst ptr s
  | .ldbIdx dst base off => Sys2Proof.Machine.execLdbIdx dst base off s
  | .addcbDir dst src => Sys2Proof.Machine.execAddcbDir dst src s
  | .addcbImm dst imm => Sys2Proof.Machine.execAddcbImm dst imm s
  | .addcbInd dst ptr => Sys2Proof.Machine.execAddcbInd dst ptr s
  | .addcbIdx dst base off => Sys2Proof.Machine.execAddcbIdx dst base off s
  | .subcbDir dst src => Sys2Proof.Machine.execSubcbDir dst src s
  | .subcbImm dst imm => Sys2Proof.Machine.execSubcbImm dst imm s
  | .subcbInd dst ptr => Sys2Proof.Machine.execSubcbInd dst ptr s
  | .subcbIdx dst base off => Sys2Proof.Machine.execSubcbIdx dst base off s
  | .ldbseDir dst src => Sys2Proof.Machine.execLdbseDir dst src s
  | .ldbseImm dst imm => Sys2Proof.Machine.execLdbseImm dst imm s
  | .ldbseInd dst ptr => Sys2Proof.Machine.execLdbseInd dst ptr s
  | .ldbseIdx dst base off => Sys2Proof.Machine.execLdbseIdx dst base off s
  | .stDir src dst => Sys2Proof.Machine.execStDir src dst s
  | .bmov ptrs cnt => Sys2Proof.Machine.execBmov ptrs cnt s
  | .stInd src ptr => Sys2Proof.Machine.execStInd src ptr s
  | .stIdx src base off => Sys2Proof.Machine.execStIdx src base off s
  | .stbDir src dst => Sys2Proof.Machine.execStbDir src dst s
  | .cmpl dst src => Sys2Proof.Machine.execCmpl dst src s
  | .stbInd src ptr => Sys2Proof.Machine.execStbInd src ptr s
  | .stbIdx src base off => Sys2Proof.Machine.execStbIdx src base off s
  | .pushDir src => Sys2Proof.Machine.execPushDir src s
  | .pushImm imm => Sys2Proof.Machine.execPushImm imm s
  | .pushInd ptr => Sys2Proof.Machine.execPushInd ptr s
  | .pushIdx base off => Sys2Proof.Machine.execPushIdx base off s
  | .popDir dst => Sys2Proof.Machine.execPopDir dst s
  | .bmovi ptrs cnt => Sys2Proof.Machine.execBmovi ptrs cnt s
  | .popInd ptr => Sys2Proof.Machine.execPopInd ptr s
  | .popIdx base off => Sys2Proof.Machine.execPopIdx base off s
  | .jnst disp => Sys2Proof.Machine.execJnst disp s
  | .jnh disp => Sys2Proof.Machine.execJnh disp s
  | .jgt disp => Sys2Proof.Machine.execJgt disp s
  | .jnc disp => Sys2Proof.Machine.execJnc disp s
  | .jnvt disp => Sys2Proof.Machine.execJnvt disp s
  | .jnv disp => Sys2Proof.Machine.execJnv disp s
  | .jge disp => Sys2Proof.Machine.execJge disp s
  | .jne disp => Sys2Proof.Machine.execJne disp s
  | .jst disp => Sys2Proof.Machine.execJst disp s
  | .jh disp => Sys2Proof.Machine.execJh disp s
  | .jle disp => Sys2Proof.Machine.execJle disp s
  | .jc disp => Sys2Proof.Machine.execJc disp s
  | .jvt disp => Sys2Proof.Machine.execJvt disp s
  | .jv disp => Sys2Proof.Machine.execJv disp s
  | .jlt disp => Sys2Proof.Machine.execJlt disp s
  | .je disp => Sys2Proof.Machine.execJe disp s
  | .djnz cnt disp => Sys2Proof.Machine.execDjnz cnt disp s
  | .djnzw cnt disp => Sys2Proof.Machine.execDjnzw cnt disp s
  | .tijmp tbase mask index => Sys2Proof.Machine.execTijmp tbase mask index s
  | .ebr ptr => Sys2Proof.Machine.execEbr ptr s
  | .ebmovi ptrs cnt => Sys2Proof.Machine.execEbmovi ptrs cnt s
  | .ejmp disp => Sys2Proof.Machine.execEjmp disp s
  | .ljmp disp => Sys2Proof.Machine.execLjmp disp s
  | .eldEInd dst ptr => Sys2Proof.Machine.execEldEInd dst ptr s
  | .eldEIdx dst ptr disp => Sys2Proof.Machine.execEldEIdx dst ptr disp s
  | .eldbEInd dst ptr => Sys2Proof.Machine.execEldbEInd dst ptr s
  | .eldbEIdx dst ptr disp => Sys2Proof.Machine.execEldbEIdx dst ptr disp s
  | .dpts => Sys2Proof.Machine.execDpts s
  | .epts => Sys2Proof.Machine.execEpts s
  | .lcall disp => Sys2Proof.Machine.execLcall disp s
  | .ret => Sys2Proof.Machine.execRet s
  | .ecall disp => Sys2Proof.Machine.execEcall disp s
  | .pushf => Sys2Proof.Machine.execPushf s
  | .popf => Sys2Proof.Machine.execPopf s
  | .pusha => Sys2Proof.Machine.execPusha s
  | .popa => Sys2Proof.Machine.execPopa s
  | .idlpd key => Sys2Proof.Machine.execIdlpd key s
  | .trap => Sys2Proof.Machine.execTrap s
  | .clrc => Sys2Proof.Machine.execClrc s
  | .setc => Sys2Proof.Machine.execSetc s
  | .di => Sys2Proof.Machine.execDi s
  | .ei => Sys2Proof.Machine.execEi s
  | .clrvt => Sys2Proof.Machine.execClrvt s
  | .nop => Sys2Proof.Machine.execNop s
  | .rst => Sys2Proof.Machine.execRst s
  | .mul3Dir dst src1 src2 => Sys2Proof.Machine.execMul3Dir dst src1 src2 s
  | .mul3Imm dst src1 imm => Sys2Proof.Machine.execMul3Imm dst src1 imm s
  | .mul3Ind dst src1 ptr => Sys2Proof.Machine.execMul3Ind dst src1 ptr s
  | .mul3Idx dst src1 base off => Sys2Proof.Machine.execMul3Idx dst src1 base off s
  | .mulb3Dir dst src1 src2 => Sys2Proof.Machine.execMulb3Dir dst src1 src2 s
  | .mulb3Imm dst src1 imm => Sys2Proof.Machine.execMulb3Imm dst src1 imm s
  | .mulb3Ind dst src1 ptr => Sys2Proof.Machine.execMulb3Ind dst src1 ptr s
  | .mulb3Idx dst src1 base off => Sys2Proof.Machine.execMulb3Idx dst src1 base off s
  | .mulDir dst src => Sys2Proof.Machine.execMulDir dst src s
  | .mulImm dst imm => Sys2Proof.Machine.execMulImm dst imm s
  | .mulInd dst ptr => Sys2Proof.Machine.execMulInd dst ptr s
  | .mulIdx dst base off => Sys2Proof.Machine.execMulIdx dst base off s
  | .mulbDir dst src => Sys2Proof.Machine.execMulbDir dst src s
  | .mulbImm dst imm => Sys2Proof.Machine.execMulbImm dst imm s
  | .mulbInd dst ptr => Sys2Proof.Machine.execMulbInd dst ptr s
  | .mulbIdx dst base off => Sys2Proof.Machine.execMulbIdx dst base off s
  | .divDir dst src => Sys2Proof.Machine.execDivDir dst src s
  | .divImm dst imm => Sys2Proof.Machine.execDivImm dst imm s
  | .divInd dst ptr => Sys2Proof.Machine.execDivInd dst ptr s
  | .divIdx dst base off => Sys2Proof.Machine.execDivIdx dst base off s
  | .divbDir dst src => Sys2Proof.Machine.execDivbDir dst src s
  | .divbImm dst imm => Sys2Proof.Machine.execDivbImm dst imm s
  | .divbInd dst ptr => Sys2Proof.Machine.execDivbInd dst ptr s
  | .divbIdx dst base off => Sys2Proof.Machine.execDivbIdx dst base off s

end Sys2Proof.Machine
end

