-- ==== Sys2Proof/Machine/Step.lean ====
section
/-! DEFINITION. One step: one evaluation of the decoder on the inputs its ports hold
(spec/00_scope.md R7, spec/10_state.md R20). Only the output port changes. -/

namespace Sys2Proof.Machine

/-- One evaluation. The order of the outcomes is that of `decode` (spec/60_exceptions.md R383). -/
def step (s : State) : Host.Outcome State Fault Refusal :=
  if s.portsFit then
    match decode s.cfg s.window with
    | .truncated need => .next (s.raiseTruncated need)
    | .unknown first  => .next (s.raiseUnknown first)
    | .instr i        => exec i s
    | .foreign f      => .next (s.decodeForeign f)
  else .fault .inputWidth

/-- The state with an instruction's bytes on the window port, a full window of them
(assumption log, entry 3). -/
def State.withFetchWord (s : State) (nbits w : Nat) : State :=
  s.present (bytesOfWord s.cfg.maxLen nbits w) s.cfg.maxLen s.addr

end Sys2Proof.Machine
end

