-- ==== Sys2Proof/Safety.lean ====
section
/-! DEFINITION. What a safe evaluation is, in the terms of the statements: inputs that fit the ports,
tables that are well formed (spec/70_reset_and_hazards.md R402), records and outcomes that say what
the window holds (spec/10_state.md R26, R29; spec/30_encoding.md R85, R86). -/

namespace Sys2Proof.Machine

/-! ## Inputs -/

/-- The address fits its port of ADDR_W bits; no rule of the decode depends on it
(spec/10_state.md R24). -/
abbrev State.addrFits (s : State) : Prop :=
  s.addr < 2 ^ s.cfg.addrW

/-- The whole window is valid (spec/60_exceptions.md R392). -/
abbrev State.fullWindow (s : State) : Prop :=
  s.portsFit = true ∧ s.avail = s.cfg.maxLen

/-! ## Tables -/

/-- The opcodes whose group resolver is FIXED (spec/44_fx_group.md R200, spec/45_ex_group.md R230). -/
def usesFixed (opcode : Byte) : Bool :=
  match groupOf opcode with
  | .fx => opcode != 0xF1
  | .ex => opcode &&& 0xFC != 0xE8 &&
      !([0xE0, 0xE1, 0xE3, 0xE6, 0xE7, 0xEF] : List Byte).contains opcode
  | .shortJump | .shortCall | .bitClear | .bitSet | .condJump | .cx | .low | .middle => false

/-- The mode bits that a window can hold for an opcode: both, but under `literal` the mode byte of a
signed opcode is the opcode itself (spec/30_encoding.md R80, spec/49_middle_group_signed.md R359). -/
def reachableModeBits (p : Params) (signed : Bool) (opcode : Byte) : List Bool :=
  if signed && p.signedModeByte == .literal then [bit0 opcode] else [false, true]

/-- How many declared operands stand in the opcode byte and have no operand byte: the bit index, the
second operand of the bit-test opcodes 0x30-0x3F, and no operand of any other opcode
(spec/30_encoding.md R79, spec/42_bit_test_jumps.md R170). -/
def operandsInOpcode (opcode : Byte) (t : Template) : Nat :=
  match groupOf opcode with
  | .bitClear | .bitSet => if (t.ops.map OperandDesc.role)[1]? = some .bitno then 1 else 0
  | .shortJump | .shortCall | .condJump | .fx | .ex | .cx | .low | .middle => 0

/-- A well-formed template at an opcode of a table (spec/70_reset_and_hazards.md R402): a length of
at least 1; for every reachable mode a final length that fits the window and L of at least n, where
the bit index in the opcode byte of 0x30-0x3F needs no operand byte (assumption log, entry 17); at
most three operands; VariableLength only with mode `indexed`; and roles the group's resolver accepts
(only FIXED looks at roles: assumption log, entry 12). -/
def templateWf (p : Params) (signed : Bool) (opcode : Byte) (t : Template) : Bool :=
  1 ≤ t.length && t.ops.length ≤ 3 &&
    (reachableModeBits p signed opcode).all (fun modeBit =>
      finalLength t signed modeBit ≤ p.maxLen &&
        t.ops.length + 1 + signed.toNat ≤
          finalLength t signed modeBit + operandsInOpcode opcode t) &&
    (!t.variableLength || t.mode == .indexed) &&
    (!usesFixed opcode || t.ops.all (fun d => fixedAccepts d.role))

/-- Both tables are well formed (spec/70_reset_and_hazards.md R402). -/
def tablesWf (p : Params) : Bool :=
  p.templatesU.all (fun x => templateWf p false x.1 x.2) &&
    p.templatesS.all (fun x => templateWf p true x.1 x.2)

/-- The tables are the default ones (spec/30_encoding.md R75, R76). Every other parameter is free. -/
abbrev hasDefaultTables (p : Params) : Prop :=
  p.templatesU = defaultTemplatesU ∧ p.templatesS = defaultTemplatesS

/-! ## Records and outcomes -/

/-- Each operand has its template name and a tag its template declares, one for each declared operand
(spec/10_state.md R29). -/
abbrev Record.operandsDeclared (r : Record) : Prop :=
  r.operands.map Operand.name = r.varNames ∧ r.operands.length = r.varTypes.length ∧
    ∀ x ∈ r.operands.zip r.varTypes, x.1.value.tag ∈ x.2

/-- Every edge starts at the record's address and carries its mnemonic (spec/10_state.md R30). -/
abbrev Record.edgesOwn (r : Record) : Prop :=
  ∀ e ∈ r.xrefs ++ r.calls ++ r.jumps, e.source = r.address ∧ e.mnemonic = r.mnemonic

/-- Cross-references are above the threshold and pairwise distinct (spec/40_resolution.md R121). -/
abbrev Record.xrefsFiltered (p : Params) (r : Record) : Prop :=
  (∀ e ∈ r.xrefs, (p.xrefThreshold : Int) < e.target) ∧ (r.xrefs.map Edge.target).Nodup

/-- A well-formed record (spec/10_state.md R26, R29, R30, R33; spec/30_encoding.md R85, R86). -/
abbrev Record.wf (p : Params) (r : Record) : Prop :=
  1 ≤ r.byteLength ∧ r.raw.length = r.byteLength ∧
    r.rawOps = r.raw.drop (if r.signed then 2 else 1) ∧
    r.operandCount ≤ 3 ∧ r.varNames.length = r.operandCount ∧ r.varTypes.length = r.operandCount ∧
    r.signedFlag = r.signed ∧ r.operandsDeclared ∧ r.edgesOwn ∧ r.xrefsFiltered p ∧
    r.calls.length + r.jumps.length ≤ 1

/-- The output port holds an outcome for the inputs on the ports: the record's bytes are the first
valid bytes of the window and all of its operands are resolved; an unknown opcode carries `win[0]`;
a truncated window holds fewer bytes than it needs, and never needs more than seven. -/
def State.outputWf (s : State) : Prop :=
  match s.out with
  | .ok r => r.wf s.cfg ∧ r.checked = true ∧ r.address = s.addr ∧ r.byteLength ≤ s.avail ∧
      r.raw = s.win.take r.byteLength
  | .unknownOpcode len raw => len = 1 ∧ 1 ≤ s.avail ∧ raw = s.win.take 1
  | .truncated need => s.avail < need ∧ need ≤ 7

/-- The invariant of the machine with the default tables. -/
def State.Inv (s : State) : Prop :=
  hasDefaultTables s.cfg ∧ s.portsFit = true ∧ s.outputWf

/-! ## What a statement expects of an instruction's record -/

/-- The parts of a record that differ from instruction to instruction. `regs` are the registers
offered to XREF, in order (spec/40_resolution.md R123, R124). -/
structure Expected where
  opcode         : Byte
  signed         : Bool := false
  mnemonic       : String
  mode           : Mode
  operands       : List Operand := []
  raw            : List Byte
  regs           : List Byte := []
  calls          : List Int := []
  jumps          : List Int := []
  variableLength : Bool := false
  autoIncrement  : Bool := false
  ignore         : Bool := false

/-- The cross-reference targets of registers offered in this order: those above the threshold, each
once, at its first place (spec/40_resolution.md R121). -/
def xrefTargets (p : Params) (regs : List Byte) : List Nat :=
  ((regs.map BitVec.toNat).filter (fun v => p.xrefThreshold < v)).eraseDups

/-- The record is the expected one, field by field (spec/10_state.md R26): one operand name and one
set of tags for each operand, the tags members of the sets (R29), `Checked` set, `Reserved` clear,
the edges from `addr` with the record's mnemonic. The description is informational. -/
def Record.says (p : Params) (addr : Nat) (x : Expected) (r : Record) : Prop :=
  r.opcode = x.opcode ∧ r.address = addr ∧ r.signed = x.signed ∧ r.mnemonic = x.mnemonic ∧
  r.mode = x.mode ∧ r.byteLength = x.raw.length ∧ r.operandCount = x.operands.length ∧
  r.operands = x.operands ∧ r.operandsDeclared ∧ r.raw = x.raw ∧
  r.rawOps = x.raw.drop (if x.signed then 2 else 1) ∧
  r.variableLength = x.variableLength ∧ r.autoIncrement = x.autoIncrement ∧
  r.signedFlag = x.signed ∧ r.ignore = x.ignore ∧ r.reserved = false ∧ r.checked = true ∧
  r.xrefs = (xrefTargets p x.regs).map (fun t => ⟨addr, t, x.mnemonic⟩) ∧
  r.calls = x.calls.map (fun t => ⟨addr, t, x.mnemonic⟩) ∧
  r.jumps = x.jumps.map (fun t => ⟨addr, t, x.mnemonic⟩)

/-- The instruction completes: a next state whose output port holds the expected record, and whose
configuration and input ports are those before. -/
def Completes (i : Instr) (s : State) (x : Expected) : Prop :=
  ∃ r, exec i s = .next { s with out := .ok r } ∧ r.says s.cfg s.addr x

/-- The operand value of an indirect pointer (spec/40_resolution.md R129). -/
def indirectValue (increments : Bool) (ptr : Byte) : OperandVal :=
  if increments then .indInc ptr else .ind ptr

/-- The mode of an indirect instruction (spec/30_encoding.md R82). -/
def indirectMode (increments : Bool) : Mode :=
  if increments then .indirectInc else .indirect

/-- The mode bit of a signed indirect instruction: bit 0 of its pointer byte, and under `literal` the
opcode's bit 0, which is clear (spec/49_middle_group_signed.md R359). -/
def signedIncrements (p : Params) (ptr : Byte) : Bool :=
  p.signedModeByte == .operand && bit0 ptr

/-- A signed indexed instruction is long-indexed: bit 0 of its base byte, and under `literal` always
(spec/49_middle_group_signed.md R359). -/
def signedIsLong (p : Params) (base : Byte) : Bool :=
  p.signedModeByte == .literal || bit0 base

/-- The last operand of the low group's walk: an immediate below 0x10, else a register
(spec/47_low_group.md R281). -/
def countValue (b : Byte) : OperandVal :=
  if b.toNat < 16 then .imm8 b else .reg b

/-- The registers the walk offers to XREF: only a byte that stays a register is added
(spec/47_low_group.md R281). -/
def countRegs (first b : Byte) : List Byte :=
  if b.toNat < 16 then [first] else [first, b]

/-! ## The walk over operand bytes, by index -/

/-- `t.ops[k].name`. -/
def Fetched.name (f : Fetched) (k : Nat) : String :=
  (f.t.ops.map OperandDesc.name).getD k ""

/-- `ops[L-1-k]`, the byte of declared operand `k` (spec/30_encoding.md R77). -/
def Fetched.walkByte (f : Fetched) (k : Nat) : Byte := f.op (f.L - 1 - k)

/-- XREF of each register in turn (spec/40_resolution.md R121). -/
def Eval.xrefAll (p : Params) (regs : List Byte) (e : Eval) : Eval :=
  regs.foldl (fun e b => e.xref p b) e

/-- The record after operands `new` are written and the registers `regs` offered to XREF: no other
field changes (spec/40_resolution.md R125). -/
def Eval.walked (p : Params) (new : List Operand) (regs : List Byte) (e : Eval) : Record :=
  { e.record with
    operands := e.record.operands ++ new,
    xrefs := (e.xrefAll p regs).record.xrefs }

/-- The first `c` declared operands as registers (spec/40_resolution.md R126). -/
def Fetched.plainOperands (f : Fetched) (c : Nat) : List Operand :=
  (List.range c).map fun k => ⟨f.name k, .reg (f.walkByte k)⟩

/-- The bytes of the first `c` declared operands. -/
def Fetched.plainBytes (f : Fetched) (c : Nat) : List Byte :=
  (List.range c).map f.walkByte

/-- A resolver's result for a fetched instruction with `n ≥ 1` operands, where `PLAIN(n-1)` is
followed by one operand that is not offered to XREF. -/
def endsWith (res : Resolver) (p : Params) (f : Fetched) (e : Eval) (last : OperandVal) : Prop :=
  ∃ e', res p f e = some e' ∧ e'.record =
    e.walked p (f.plainOperands (f.n - 1) ++ [⟨f.name (f.n - 1), last⟩]) (f.plainBytes (f.n - 1))

/-- The decoder without the instruction set: classification, then the steps of every template with
the resolver of its opcode's group (spec/30_encoding.md R71, R88). -/
def referenceOutput (p : Params) (addr : Nat) (bytes : List Byte) : Output :=
  match classify p bytes with
  | .truncated need => .truncated need
  | .unknown first  => .unknownOpcode 1 [first]
  | .fetched f      => .ok (decodeRecord p addr f (groupResolver (groupOf f.opcode)))

end Sys2Proof.Machine
end

