-- ==== Sys2Proof/Certificates/Slice0/Obligations.lean ====
section
/-! DEFINITION. The statements for the provers, one `def Obligations.<Name> : Prop` each. A statement
about an instruction is a `Completes` statement (Safety.lean): exec answers a next state that differs
in the output port alone, and the record there is the expected one, field by field. -/

open Sys2Proof Sys2Proof.Machine

/-- O1. Where the ports hold an input and the valid bytes of the window decode to an instruction i,
step at that state is exec of i at that state, with nothing around it. (R20, R71, R383.) -/
def Obligations.StepRunsDecodedInstruction : Prop :=
  ∀ (s : State) (i : Instr), s.portsFit = true → decode s.cfg s.window = .instr i →
    step s = exec i s

/-- O2. Where the valid bytes are truncated or have no template, step answers a next state that
differs in the output port alone: Truncated(need) with the need the decoder found, or
UnknownOpcode with len 1 and raw [win[0]]. Ports that hold no input of the decoder (a window
that is not MAX_LEN bytes or an avail above it) are the one case that faults: that clause is the
model's choice (assumption log, entry 4). (R25, R380, R381, R382, R386.) -/
def Obligations.StepReportsOtherOutcomes : Prop :=
  (∀ (s : State) (need : Nat), s.portsFit = true → decode s.cfg s.window = .truncated need →
      step s = .next { s with out := .truncated need }) ∧
  (∀ (s : State) (b : Byte), s.portsFit = true → decode s.cfg s.window = .unknown b →
      step s = .next { s with out := .unknownOpcode 1 [b] }) ∧
  (∀ s : State, s.portsFit = false → step s = .fault .inputWidth)

/-- O3. State.reset has every parameter at its default: the prefix 0xFE, the two default tables,
MAX_LEN 7, ADDR_W 24, the masks, the threshold 2, mode byte operand, plain register names. The
input ports hold the model's values (assumption log, entry 2: DESIGN CHOICE), and one step from
reset leaves the state as it is. (R8, R38, R400.) -/
def Obligations.ResetConfiguration : Prop :=
  State.reset.cfg.signedPrefix = 0xFE ∧ hasDefaultTables State.reset.cfg ∧
    State.reset.cfg.maxLen = 7 ∧ State.reset.cfg.addrW = 24 ∧
    State.reset.cfg.extAddrMask = 0x1FFFFF ∧ State.reset.cfg.extMaskPoint = .target ∧
    State.reset.cfg.indPtrMask = 0xFE ∧ State.reset.cfg.extPtrMask = 0xFE ∧
    State.reset.cfg.xrefThreshold = 2 ∧ State.reset.cfg.signedModeByte = .operand ∧
    State.reset.cfg.regNames = [] ∧ step State.reset = .next State.reset

/-- O4. State.Inv holds at State.reset: the default tables (R8, R400), ports that hold an input, an
output that is an outcome for that input. The clauses on the ports and the output rest on the
values the model gives the window, avail and the output at reset, which no rule states
(assumption log, entry 2: DESIGN CHOICE). (R38, R400, R402.) -/
def Obligations.ResetMeetsInvariant : Prop :=
  State.reset.Inv

/-- O5. For every state with State.Inv, if step answers a next state, State.Inv holds of it: the
tables stay the default ones, the ports stay an input, and the output is an outcome for that
input: a record whose raw bytes are the first byte_length valid bytes, with raw_ops, names,
declared tags, Checked, own edges, filtered distinct cross-references and at most one call or
jump; or UnknownOpcode with win[0]; or a Truncated whose need is above avail and at most 7.
(R26, R29, R30, R84, R85, R86, R121, R384.) -/
def Obligations.StepKeepsInvariant : Prop :=
  ∀ s t : State, s.Inv → step s = .next t → t.Inv

/-- O6. With the default tables, for every window, avail and address that fit the ports, and
whatever the output port held before, step answers a next state (never a fault, never a
refusal), and that state meets State.Inv. (R25, R384, R388, R392.) -/
def Obligations.EveryEvaluationAnswersConsistently : Prop :=
  ∀ s : State, hasDefaultTables s.cfg → s.portsFit = true → ∃ t, step s = .next t ∧ t.Inv

/-- O7. For every state and every parameters, if step answers a next state, it has the same
configuration (so the template tables are never written), window, avail and address. (R9, R20,
R23, R386.) -/
def Obligations.StepChangesOutputOnly : Prop :=
  ∀ s t : State, step s = .next t →
    t.cfg = s.cfg ∧ t.win = s.win ∧ t.avail = s.avail ∧ t.addr = s.addr

/-- O8. Two states with the same configuration, address and avail, whose windows agree on the first
avail bytes (their other bytes and their output ports may differ), give the same output after a
step. (R12, R20, R36, R37, R50.) -/
def Obligations.OutputIsFunctionOfValidInputs : Prop :=
  ∀ s s' t t' : State, s.cfg = s'.cfg → s.addr = s'.addr → s.avail = s'.avail →
    s.win.take s.avail = s'.win.take s'.avail → step s = .next t → step s' = .next t' →
    t.out = t'.out

/-- O9. With the default tables and at least seven valid bytes on the ports, the outcome of a step
is never Truncated. (R392, R404, R86.) -/
def Obligations.FullWindowIsNeverTruncated : Prop :=
  ∀ s t : State, hasDefaultTables s.cfg → s.portsFit = true → 7 ≤ s.avail →
    step s = .next t → ∀ need, t.out ≠ .truncated need

/-- O10. For every state whose ports hold an input, and every parameters and tables, step puts on
the output port exactly what the table-driven decoder gives: classification, then the template's
steps with the resolver of the opcode's group. So each instruction's own meaning agrees with the
group dispatch on the opcode value. (R71, R88, R134, R200, R230, R260, R280, R320.) -/
def Obligations.StepIsReferenceDecoder : Prop :=
  ∀ s : State, s.portsFit = true →
    step s = .next { s with out := referenceOutput s.cfg s.addr s.window }

/-- O11. For every parameters p, every instruction i that is well-formed under p and whose row the
tables of p hold, and any bytes after its encoding, decode gives i. (R70, R72, R77, R78, R79.) -/
def Obligations.DecodeOfEncode : Prop :=
  ∀ (p : Params) (i : Instr) (rest : List Byte), i.wf p = true → i.inTables p →
    decode p (encode p i ++ rest) = .instr i

/-- O12. For every parameters p and bytes that decode to an instruction i, i is well-formed, the
tables of p hold its row, and the bytes begin with the encoding of i: the decoder drops no bit
and merges no two encodings. (R70, R72, R77, R78, R79, R93.) -/
def Obligations.EncodeOfDecode : Prop :=
  ∀ (p : Params) (bytes : List Byte) (i : Instr), decode p bytes = .instr i →
    i.wf p = true ∧ i.inTables p ∧ ∃ rest, bytes = encode p i ++ rest

/-- O13. For every parameters and bytes that classify to a whole instruction: byte_length is
t.length, plus one when long-indexed, plus one when signed; raw has that many bytes and is the
front of the valid bytes; with the default tables the length is from 1 to 7, and 7 is reached by
a signed three-operand long-indexed MUL. (R86.) -/
def Obligations.FinalByteLength : Prop :=
  (∀ (p : Params) (bytes : List Byte) (f : Fetched) (addr : Nat), classify p bytes = .fetched f →
      (initRecord addr f).byteLength =
        f.t.length + (if (initRecord addr f).mode = .longIndexed ∧ f.t.mode = .indexed then 1 else 0) +
          (if f.signed then 1 else 0) ∧
      (initRecord addr f).raw.length = (initRecord addr f).byteLength ∧
      (initRecord addr f).raw = bytes.take (initRecord addr f).byteLength ∧
      (hasDefaultTables p →
        1 ≤ (initRecord addr f).byteLength ∧ (initRecord addr f).byteLength ≤ 7)) ∧
  ∀ (s : State) (dst src1 base : Byte) (off : Word), s.cfg.signedModeByte = .operand →
      bit0 base = true →
      ∃ r, exec (.mul3Idx dst src1 base (.word off)) s = .next { s with out := .ok r } ∧
        r.byteLength = 7 ∧ r.raw.length = 7

/-- O14. Classification of the valid bytes: none gives Truncated(1); a lone prefix gives
Truncated(2); an opcode without template is unknown whatever else is missing; then a missing
mode byte gives Truncated(mb_index+1) where the template needs one; then too few bytes give
Truncated(byte_length); else the instruction. With the six consequences of R383 as steps of the
default decoder. (R383.) -/
def Obligations.OutcomePriority : Prop :=
  (∀ p : Params, classify p [] = .truncated 1) ∧
  (∀ p : Params, classify p [p.signedPrefix] = .truncated 2) ∧
  (∀ (p : Params) (first : Byte) (signed : Bool) (opcode : Byte) (bytes rest : List Byte),
    (signed = false ∧ first ≠ p.signedPrefix ∧ opcode = first ∧ bytes = first :: rest ∨
      signed = true ∧ first = p.signedPrefix ∧ bytes = first :: opcode :: rest) →
    (lookupTemplate p signed opcode = none → classify p bytes = .unknown first) ∧
    ∀ t, lookupTemplate p signed opcode = some t →
      (needsModeByte t = true ∧ bytes.length ≤ modeByteIndex p signed →
        classify p bytes = .truncated (modeByteIndex p signed + 1)) ∧
      (¬ (needsModeByte t = true ∧ bytes.length ≤ modeByteIndex p signed) →
        ∀ len, len = finalLength t signed (modeBitOf p t signed bytes) →
          (bytes.length < len → classify p bytes = .truncated len) ∧
          (len ≤ bytes.length → ∃ f, classify p bytes = .fetched f ∧ f.raw = bytes.take len))) ∧
  decode defaultParams [0x10] = .unknown 0x10 ∧
  decode defaultParams [0xFE] = .truncated 2 ∧
  decode defaultParams [0xFE, 0x44] = .unknown 0xFE ∧
  decode defaultParams [0x67] = .truncated 2 ∧
  decode defaultParams [0x67, 0x31, 0x10] = .truncated 5 ∧
  decode defaultParams [0x64, 0x30] = .truncated 3

/-- O15. Under any parameters, two windows that agree on their first three bytes and both classify
to a whole instruction give the same byte length, template, mode and flags. (R90, R404.) -/
def Obligations.LengthFromThreeBytes : Prop :=
  ∀ (p : Params) (bytes bytes' : List Byte) (f f' : Fetched), bytes.take 3 = bytes'.take 3 →
    classify p bytes = .fetched f → classify p bytes' = .fetched f' →
    f.raw.length = f'.raw.length ∧ f.t = f'.t ∧ f.signed = f'.signed ∧ f.opcode = f'.opcode ∧
      f.modeBit = f'.modeBit

/-- O16. Under any parameters, if the valid bytes are truncated with need k, they are fewer than k;
any longer front of the same image that is still shorter than k gives the same outcome; and with
k bytes or more the outcome is no Truncated with need k or less. (R382's further sentence, that
k bytes always give the full-window outcome, is not stated: log entry 8.) (R382, R403.) -/
def Obligations.TruncatedNeed : Prop :=
  ∀ (p : Params) (bytes more : List Byte) (k : Nat), decode p bytes = .truncated k →
    bytes.length < k ∧
    (bytes.length + more.length < k → decode p (bytes ++ more) = .truncated k) ∧
    (k ≤ bytes.length + more.length → ∀ k', decode p (bytes ++ more) = .truncated k' → k < k')

/-- O17. Every default template meets the conditions of R402, under two readings of the model: roles
are checked under FIXED only, the one resolver that looks at them (log entry 12: DEDUCED), and L
>= n is counted without the bit index of 0x30 to 0x3F, which has no operand byte (log entry 17:
DEDUCED). L >= n holds as written of all but those sixteen opcodes, where L = 2 and n = 3.
Further, the unsigned table has no entry for 0x10, 0xE5, 0xEE and the prefix 0xFE and for no
other byte; the signed table has the 24 entries of R76 and no other; and the group tests put
every signed opcode in the middle group. (R75, R76, R89, R91, R402.) -/
def Obligations.DefaultTablesWellFormed : Prop :=
  tablesWf defaultParams = true ∧
  (∀ x ∈ defaultTemplatesU ++ defaultTemplatesS,
    if x.1.toNat / 16 = 3 then x.2.length = 3 ∧ x.2.ops.length = 3
    else x.2.ops.length + 1 ≤ x.2.length) ∧
  (∀ b : Byte, lookupTemplate defaultParams false b = none ↔ b ∈ ([0x10, 0xE5, 0xEE, 0xFE] : List Byte)) ∧
  (∀ b : Byte, (lookupTemplate defaultParams true b).isSome = true ↔
    b.toNat % 16 ∈ [12, 13, 14, 15] ∧ b.toNat / 16 ∈ [4, 5, 6, 7, 8, 9]) ∧
  (∀ b : Byte, (lookupTemplate defaultParams true b).isSome = true → groupOf b = .middle)

/-- O18. A sanity statement: at least one instruction of each of the ten groups of R88, its bytes
written from the layouts of R78 and R79, decodes to that instruction. (R78, R79, R88.) -/
def Obligations.DecodedWords : Prop :=
  decode defaultParams [0x64, 0x22, 0x30] = .instr (.addDir 0x30 0x22) ∧
  decode defaultParams [0x41, 0x34, 0x12, 0x32, 0x30] = .instr (.and3Imm 0x30 0x32 0x1234) ∧
  decode defaultParams [0x43, 0x51, 0x34, 0x12, 0x32, 0x30] =
    .instr (.and3Idx 0x30 0x32 0x51 (.word 0x1234)) ∧
  decode defaultParams [0x24, 0x00] = .instr (.sjmp 0x400) ∧
  decode defaultParams [0x2F, 0xFE] = .instr (.scall 0x7FE) ∧
  decode defaultParams [0x35, 0x80, 0xF0] = .instr (.jbc 5 0x80 0xF0) ∧
  decode defaultParams [0x3F, 0x80, 0x7F] = .instr (.jbs 7 0x80 0x7F) ∧
  decode defaultParams [0xD7, 0x02] = .instr (.jne 0x02) ∧
  decode defaultParams [0xE6, 0xFC, 0xFF, 0xFF] = .instr (.ejmp 0xFFFFFC) ∧
  decode defaultParams [0xE9, 0x40, 0x12, 0xFF, 0x00, 0x30] = .instr (.eldEIdx 0x30 0x40 0x00FF12) ∧
  decode defaultParams [0xC9, 0x34, 0x12] = .instr (.pushImm 0x1234) ∧
  decode defaultParams [0x0F, 0x04, 0x38] = .instr (.norml 0x38 0x04) ∧
  decode defaultParams [0xF1, 0x00, 0x00, 0x01] = .instr (.ecall 0x010000) ∧
  decode defaultParams [0xFE, 0x8E, 0x31, 0x3A] = .instr (.divInd 0x3A 0x31)

/-- O19. For every opcode byte and next byte, the procedure of R110 gives the two's-complement value
of the opcode's low three bits followed by the byte, which lies in [-1024, 1023]; the boundary
values are +1023 for (0x03, 0xFF), -1024 for (0x04, 0x00), and (0x07, 0xFF) gives -1. (R110.) -/
def Obligations.OffsetCalculator : Prop :=
  (∀ b0 b1 : Byte, offset11 b0 b1 = (b0.extractLsb' 0 3 ++ b1 : BitVec 11).toInt ∧
      -1024 ≤ offset11 b0 b1 ∧ offset11 b0 b1 ≤ 1023) ∧
  offset11 0x03 0xFF = 1023 ∧ offset11 0x04 0x00 = -1024 ∧ offset11 0x07 0xFF = -1

/-- O20. XREF(v) emits the edge (addr, v, mnemonic) and adds v to seen when v exceeds the threshold
and is not in seen, and otherwise does nothing; every other field is unchanged. Offering a list
of registers from an empty seen set emits exactly those above the threshold, each once, at its
first place. With the default threshold the values 0, 1 and 2 are never recorded. A resolver is
entered with seen empty. (R121.) -/
def Obligations.CrossReferenceEmission : Prop :=
  (∀ (p : Params) (v : Byte) (e : Eval),
      (p.xrefThreshold < v.toNat ∧ v.toNat ∉ e.seen → e.xref p v =
        { record := { e.record with xrefs := e.record.xrefs ++ [⟨e.record.address, v.toNat, e.record.mnemonic⟩] },
          seen := e.seen ++ [v.toNat] }) ∧
      (¬ (p.xrefThreshold < v.toNat ∧ v.toNat ∉ e.seen) → e.xref p v = e)) ∧
  (∀ (p : Params) (r : Record) (regs : List Byte),
      ((⟨r, []⟩ : Eval).xrefAll p regs).record = { r with
        xrefs := r.xrefs ++ (xrefTargets p regs).map (fun t => ⟨r.address, t, r.mnemonic⟩) }) ∧
  (∀ (v : Byte) (e : Eval), v.toNat ≤ 2 → e.xref defaultParams v = e) ∧
  (∀ (p : Params) (addr : Nat) (f : Fetched) (res : Resolver) (e : Eval), f.t.ops ≠ [] →
      res p f ⟨initRecord addr f, []⟩ = some e →
      decodeRecord p addr f res = { e.record with checked := true })

/-- O21. CALL(t) and JUMP(t) append the edge (addr, t, mnemonic) for every target, also one of 0 or
below, and also one already there, and change nothing else. (R122.) -/
def Obligations.CallsAndJumpsUnconditional : Prop :=
  ∀ (e : Eval) (t : Int),
    e.call t = { e with record := { e.record with
      calls := e.record.calls ++ [⟨e.record.address, t, e.record.mnemonic⟩] } } ∧
    e.jump t = { e with record := { e.record with
      jumps := e.record.jumps ++ [⟨e.record.address, t, e.record.mnemonic⟩] } }

/-- O22. With EXT_ADDR_MASK 0x1FFFFF, for every end address and every 24-bit displacement read as
two's complement (little-endian bytes): with EXT_MASK_POINT = target the result is (end + disp)
mod 2^21, also where the sum is negative; with displacement it is end + (disp mod 2^21). EJMP
and ECALL use it on end = addr + byte_length. (R113.) -/
def Obligations.ExtendedTargetMask : Prop :=
  (∀ (p : Params) (endAddr : Nat) (x0 x1 x2 : Byte), p.extAddrMask = 0x1FFFFF →
      (p.extMaskPoint = .target →
        (xtarget p endAddr (sext (le24 x0 x1 x2)) : Int) =
          (endAddr + (x2 ++ x1 ++ x0 : BitVec 24).toInt) % 2 ^ 21) ∧
      (p.extMaskPoint = .displacement →
        (xtarget p endAddr (sext (le24 x0 x1 x2)) : Int) =
          endAddr + (x2 ++ x1 ++ x0 : BitVec 24).toInt % 2 ^ 21)) ∧
  ∀ (s : State) (disp : BitVec 24), ∃ r r',
      exec (.ejmp disp) s = .next { s with out := .ok r } ∧
      r.jumps.map Edge.target = [(xtarget s.cfg (s.addr + 4) disp.toInt : Int)] ∧
      exec (.ecall disp) s = .next { s with out := .ok r' } ∧
      r'.calls.map Edge.target = [(xtarget s.cfg (s.addr + 4) disp.toInt : Int)]

/-- O23. For c no larger than the operand count and the operand-byte count, PLAIN(c) appends for
each k below c the operand (t.ops[k].name, REG, ops[L-1-k]) and offers those bytes to XREF in
that order; no other field of the record changes. (R126.) -/
def Obligations.PlainRegisterWalk : Prop :=
  ∀ (p : Params) (f : Fetched) (e : Eval) (c : Nat), c ≤ f.n → c ≤ f.L →
    (plain p c f e).record = e.walked p (f.plainOperands c) (f.plainBytes c)

/-- O24. When the operand-byte count is the operand count, DIRECT is handled and writes every
operand as REG by PLAIN(n), the last included; otherwise it is unhandled. The bytes 64 22 30
give dst = R_30 and src = R_22 and the cross-references 0x30 and 0x22. (R127.) -/
def Obligations.DirectResolver : Prop :=
  (∀ (p : Params) (f : Fetched) (e : Eval),
      (f.L = f.n → ∃ e', resolveDirect p f e = some e' ∧
        e'.record = e.walked p (f.plainOperands f.n) (f.plainBytes f.n)) ∧
      (f.L ≠ f.n → resolveDirect p f e = none)) ∧
  ∀ addr : Nat, ∃ r, referenceOutput defaultParams addr [0x64, 0x22, 0x30] = .ok r ∧
      r.operands = [⟨"dst", .reg 0x30⟩, ⟨"src", .reg 0x22⟩] ∧
      r.xrefs.map Edge.target = [0x30, 0x22]

/-- O25. With w = L - (n-1): for w = 1 the last operand is IMM8 ops[0], for w = 2 it is IMM16
le16(ops[0], ops[1]), after PLAIN(n-1), and it is not cross-referenced; for any other w the
resolver is unhandled. (R128.) -/
def Obligations.ImmediateResolver : Prop :=
  ∀ (p : Params) (f : Fetched) (e : Eval) (w : Int), 1 ≤ f.n → w = f.L - (f.n - 1 : Int) →
    (w = 1 → endsWith resolveImmediate p f e (.imm8 (f.op 0))) ∧
    (w = 2 → endsWith resolveImmediate p f e (.imm16 (le16 (f.op 0) (f.op 1)))) ∧
    (w ≠ 1 ∧ w ≠ 2 → resolveImmediate p f e = none)

/-- O26. For n of at least 1: INDIRECT with L = n ends with IND, or INDINC in mode indirect+, of
ops[0] & IND_PTR_MASK; SINDEXED with L = n+1 with (masked ops[0], ops[1]); LINDEXED with L = n+2
with (masked ops[0], le16(ops[1], ops[2])); EINDIRECT with L = n with ops[0] & EXT_PTR_MASK;
EINDEXED with L = n+3 with (masked ops[0], le24(ops[1..3])). Each after PLAIN(n-1), its last
operand not offered to XREF; each unhandled at any other L. (R129, R130, R131, R132, R133.) -/
def Obligations.PointerAndIndexResolvers : Prop :=
  ∀ (p : Params) (f : Fetched) (e : Eval), 1 ≤ f.n →
    ((f.L = f.n → endsWith resolveIndirect p f e
        (indirectValue (decide (e.record.mode = .indirectInc)) (f.op 0 &&& p.indPtrMask))) ∧
      (f.L ≠ f.n → resolveIndirect p f e = none)) ∧
    ((f.L = f.n + 1 → endsWith resolveShortIndexed p f e
        (.sidx (f.op 0 &&& p.indPtrMask) (f.op 1))) ∧
      (f.L ≠ f.n + 1 → resolveShortIndexed p f e = none)) ∧
    ((f.L = f.n + 2 → endsWith resolveLongIndexed p f e
        (.lidx (f.op 0 &&& p.indPtrMask) (le16 (f.op 1) (f.op 2)))) ∧
      (f.L ≠ f.n + 2 → resolveLongIndexed p f e = none)) ∧
    ((f.L = f.n → endsWith resolveExtIndirect p f e (.eind (f.op 0 &&& p.extPtrMask))) ∧
      (f.L ≠ f.n → resolveExtIndirect p f e = none)) ∧
    ((f.L = f.n + 3 → endsWith resolveExtIndexed p f e
        (.eidx (f.op 0 &&& p.extPtrMask) (le24 (f.op 1) (f.op 2) (f.op 3)))) ∧
      (f.L ≠ f.n + 3 → resolveExtIndexed p f e = none))

/-- O27. When L = n and every role is reg, imm8 or ind, FIXED writes operand k from ops[L-1-k] as
REG (offered to XREF), IMM8, or IND masked with IND_PTR_MASK; otherwise it is unhandled. (R135.) -/
def Obligations.FixedResolver : Prop :=
  ∀ (p : Params) (f : Fetched) (e : Eval),
    (f.L = f.n ∧ (∀ d ∈ f.t.ops, d.role = .reg ∨ d.role = .imm8 ∨ d.role = .ind) →
      ∃ e', resolveFixed p f e = some e' ∧ e'.record = e.walked p
        ((List.range f.n).map fun k => ⟨f.name k,
          match (f.t.ops.map OperandDesc.role).getD k .reg with
          | .imm8 => .imm8 (f.walkByte k)
          | .ind => .ind (f.walkByte k &&& p.indPtrMask)
          | _ => .reg (f.walkByte k)⟩)
        (((List.range f.n).filter fun k =>
          (f.t.ops.map OperandDesc.role).getD k .reg == .reg).map f.walkByte)) ∧
    (¬ (f.L = f.n ∧ (∀ d ∈ f.t.ops, d.role = .reg ∨ d.role = .imm8 ∨ d.role = .ind)) →
      resolveFixed p f e = none)

/-- O28. For n of at least 1 and L at least n, the walk writes the first n-1 operands as registers,
and the last from ops[L-n]: an IMM8, not offered to XREF, when bit 3 of the opcode is set, the
opcode is not 0x0F and the byte is below 0x10; else a REG offered to XREF. For L below n it is
unhandled. In the default table every operand-bearing opcode of the walk has L of at least n,
and L = n for every bit-3 opcode except 0x0B and 0x1B. (R281.) -/
def Obligations.LowGroupWalk : Prop :=
  (∀ (p : Params) (f : Fetched) (e : Eval), 1 ≤ f.n →
      (f.n ≤ f.L → ∃ e', resolveLowWalk p f e = some e' ∧ e'.record =
        if f.opcode.getLsbD 3 = true ∧ f.opcode ≠ 0x0F ∧ (f.op (f.L - f.n)).toNat < 0x10 then
          e.walked p (f.plainOperands (f.n - 1) ++ [⟨f.name (f.n - 1), .imm8 (f.op (f.L - f.n))⟩])
            (f.plainBytes (f.n - 1))
        else e.walked p (f.plainOperands f.n) (f.plainBytes f.n)) ∧
      (f.L < f.n → resolveLowWalk p f e = none)) ∧
  (∀ b : Byte, b.toNat < 0x20 → b ≠ 0x1D → b ≠ 0x1F → ∀ t, lookupTemplate defaultParams false b = some t →
      t.ops ≠ [] → t.ops.length + 1 ≤ t.length ∧
        (b.getLsbD 3 = true → b ≠ 0x0B → b ≠ 0x1B → t.ops.length + 1 = t.length))

/-- O29. For a template with operands: where the resolver is handled the record is the resolver's
with Checked set; where it is unhandled Checked is clear, the operand list and all edge lists
are empty, and the byte length and slices are those computed; with the default tables every
record that a step puts out has Checked set. (R149.) -/
def Obligations.CheckedOnlyWhenHandled : Prop :=
  (∀ (p : Params) (addr : Nat) (f : Fetched) (res : Resolver), f.t.ops ≠ [] →
      (∀ e, res p f ⟨initRecord addr f, []⟩ = some e →
        decodeRecord p addr f res = { e.record with checked := true }) ∧
      (res p f ⟨initRecord addr f, []⟩ = none → ∀ r, r = decodeRecord p addr f res →
        r.checked = false ∧ r.operands = [] ∧ r.xrefs = [] ∧ r.calls = [] ∧ r.jumps = [] ∧
        r.byteLength = finalLength f.t f.signed f.modeBit ∧ r.raw = f.raw ∧ r.rawOps = f.ops)) ∧
  ∀ (s t : State) (r : Record), hasDefaultTables s.cfg → step s = .next t → t.out = .ok r →
      r.checked = true

/-- O30. An indexed template with VariableLength becomes long-indexed with one byte more when the
mode bit is set, and short-indexed otherwise; an indirect template becomes indirect+ with
AutoIncrement when it is set, with no change of length; every other template keeps its mode and
length, and an indexed template without VariableLength keeps mode indexed. (R81, R82, R83.) -/
def Obligations.ModeRefinement : Prop :=
  ∀ (t : Template) (signed modeBit : Bool),
    (t.mode = .indexed ∧ t.variableLength = true →
      refinedMode t modeBit = (if modeBit then .longIndexed else .shortIndexed) ∧
      finalLength t signed modeBit = t.length + (if modeBit then 1 else 0) + (if signed then 1 else 0) ∧
      autoIncrementFlag t modeBit = false) ∧
    (t.mode = .indirect →
      refinedMode t modeBit = (if modeBit then .indirectInc else .indirect) ∧
      finalLength t signed modeBit = t.length + (if signed then 1 else 0) ∧
      autoIncrementFlag t modeBit = modeBit) ∧
    (t.mode ≠ .indirect → ¬ (t.mode = .indexed ∧ t.variableLength = true) →
      refinedMode t modeBit = t.mode ∧
      finalLength t signed modeBit = t.length + (if signed then 1 else 0) ∧
      autoIncrementFlag t modeBit = false)

/-- O31. A record that a step puts out has Signed set if and only if the window begins with the
prefix and the signed table has a template for the byte after it; the prefix before a byte
without signed template gives UnknownOpcode and no record. (R33.) -/
def Obligations.SignedFlag : Prop :=
  (∀ (s t : State) (r : Record), step s = .next t → t.out = .ok r →
      (r.signedFlag = true ↔ ∃ b rest, s.window = s.cfg.signedPrefix :: b :: rest ∧
        (lookupTemplate s.cfg true b).isSome = true)) ∧
  ∀ (s : State) (b : Byte) (rest : List Byte), s.portsFit = true →
      s.window = s.cfg.signedPrefix :: b :: rest → lookupTemplate s.cfg true b = none →
      step s = .next { s with out := .unknownOpcode 1 [s.cfg.signedPrefix] }

/-- O32. For every fetched instruction and the resolver of its opcode's group, handled or not, the
finished record has the template's VariableLength, AutoIncrement exactly for an indirect
template whose mode byte has bit 0 set, the template's Ignore and Reserved, and Signed as
fetched; and the default tables carry VariableLength exactly on mode indexed. (R31, R32.) -/
def Obligations.ResolversKeepFlags : Prop :=
  (∀ (p : Params) (addr : Nat) (f : Fetched) (r : Record),
      r = decodeRecord p addr f (groupResolver (groupOf f.opcode)) →
      r.variableLength = f.t.variableLength ∧
      r.autoIncrement = (decide (f.t.mode = .indirect) && f.modeBit) ∧
      r.ignore = f.t.ignore ∧ r.reserved = f.t.reserved ∧ r.signedFlag = f.signed) ∧
  (∀ x ∈ defaultTemplatesU ++ defaultTemplatesS, x.2.variableLength = true ↔ x.2.mode = .indexed)

/-- O33. Under SIGNED_MODE_BYTE = operand, each of the 24 signed instructions and the unsigned
instruction of the same opcode and operand bytes both complete, with equal operands, mode,
operand bytes, flags (VariableLength, AutoIncrement, Ignore, Reserved, Checked) but Signed, and
cross-reference targets; the signed record is one byte longer, begins with the prefix, and its
mnemonic is SGN and the signed name. The indexed forms range over offsets of either width; where
the mode bit selects the other width the term is the decoding of no bytes, and what exec answers
for it is the model's own (assumption log, entry 11: DESIGN CHOICE). (R76, R84, R359.) -/
def Obligations.SignedTwins : Prop :=
  ∀ (s : State) (d a b : Byte) (w : Word) (o : IndexOffset), s.cfg.signedModeByte = .operand →
    ∀ x ∈ ([(.mul3Dir d a b, .mulu3Dir d a b, "MUL"),
       (.mul3Imm d a w, .mulu3Imm d a w, "MUL"),
       (.mul3Ind d a b, .mulu3Ind d a b, "MUL"),
       (.mul3Idx d a b o, .mulu3Idx d a b o, "MUL"),
       (.mulb3Dir d a b, .mulub3Dir d a b, "MULB"),
       (.mulb3Imm d a b, .mulub3Imm d a b, "MULB"),
       (.mulb3Ind d a b, .mulub3Ind d a b, "MULB"),
       (.mulb3Idx d a b o, .mulub3Idx d a b o, "MULB"),
       (.mulDir d a, .muluDir d a, "MUL"),
       (.mulImm d w, .muluImm d w, "MUL"),
       (.mulInd d b, .muluInd d b, "MUL"),
       (.mulIdx d b o, .muluIdx d b o, "MUL"),
       (.mulbDir d a, .mulubDir d a, "MULB"),
       (.mulbImm d b, .mulubImm d b, "MULB"),
       (.mulbInd d b, .mulubInd d b, "MULB"),
       (.mulbIdx d b o, .mulubIdx d b o, "MULB"),
       (.divDir d a, .divuDir d a, "DIV"),
       (.divImm d w, .divuImm d w, "DIV"),
       (.divInd d b, .divuInd d b, "DIV"),
       (.divIdx d b o, .divuIdx d b o, "DIV"),
       (.divbDir d a, .divubDir d a, "DIVB"),
       (.divbImm d b, .divubImm d b, "DIVB"),
       (.divbInd d b, .divubInd d b, "DIVB"),
       (.divbIdx d b o, .divubIdx d b o, "DIVB")] : List (Instr × Instr × String)),
      ∃ r u, exec x.1 s = .next { s with out := .ok r } ∧ exec x.2.1 s = .next { s with out := .ok u } ∧
        r.mnemonic = "SGN " ++ x.2.2 ∧ r.signedFlag = true ∧ u.signedFlag = false ∧
        r.byteLength = u.byteLength + 1 ∧ r.raw = s.cfg.signedPrefix :: u.raw ∧
        r.rawOps = u.rawOps ∧ r.mode = u.mode ∧ r.operands = u.operands ∧
        r.variableLength = u.variableLength ∧ r.autoIncrement = u.autoIncrement ∧
        r.ignore = u.ignore ∧ r.reserved = u.reserved ∧
        r.checked = u.checked ∧ r.xrefs.map Edge.target = u.xrefs.map Edge.target

/-- O34. RET, PUSHF, POPF, PUSHA, POPA, TRAP, CLRC, SETC, DI, EI, CLRVT, RST, DPTS and EPTS complete
with a one-byte inherent record, no operand and no edge; NOP also, with Ignore set; SKIP with
two bytes, whatever the second is, with Ignore set. Everything but the output port is unchanged.
(R87, R201, R208, R214, R215, R241, R283.) -/
def Obligations.InherentInstructions : Prop :=
  (∀ x ∈ ([(.dpts, 0xEC, "DPTS"), (.epts, 0xED, "EPTS"), (.ret, 0xF0, "RET"),
      (.pushf, 0xF2, "PUSHF"), (.popf, 0xF3, "POPF"), (.pusha, 0xF4, "PUSHA"),
      (.popa, 0xF5, "POPA"), (.trap, 0xF7, "TRAP"), (.clrc, 0xF8, "CLRC"),
      (.setc, 0xF9, "SETC"), (.di, 0xFA, "DI"), (.ei, 0xFB, "EI"), (.clrvt, 0xFC, "CLRVT"),
      (.rst, 0xFF, "RST")] : List (Instr × Byte × String)),
      ∀ s : State, Completes x.1 s
        { opcode := x.2.1, mnemonic := x.2.2, mode := .inherent, raw := [x.2.1] }) ∧
  (∀ s : State, Completes .nop s
      { opcode := 0xFD, mnemonic := "NOP", mode := .inherent, raw := [0xFD], ignore := true }) ∧
  ∀ (s : State) (pad : Byte), Completes (.skip pad) s
      { opcode := 0x00, mnemonic := "SKIP", mode := .inherent, raw := [0x00, pad], ignore := true }

/-- O35. For every 11-bit displacement, SJMP and SCALL complete with the code address addr + 2 +
disp (an exact integer, possibly negative), a jump edge for SJMP and a call edge for SCALL, and
no cross-reference; the displacement's high bits stand in the opcode. (R110, R114, R160, R161,
R162.) -/
def Obligations.ShortJumpAndCall : Prop :=
  ∀ (s : State) (disp : BitVec 11),
    Completes (.sjmp disp) s
      { opcode := 0x20 ||| (disp.extractLsb' 8 3).setWidth 8, mnemonic := "SJMP", mode := .relative,
        operands := [⟨"cadd", .cadd (s.addr + 2 + disp.toInt)⟩],
        raw := [0x20 ||| (disp.extractLsb' 8 3).setWidth 8, disp.extractLsb' 0 8],
        jumps := [s.addr + 2 + disp.toInt] } ∧
    Completes (.scall disp) s
      { opcode := 0x28 ||| (disp.extractLsb' 8 3).setWidth 8, mnemonic := "SCALL", mode := .relative,
        operands := [⟨"cadd", .cadd (s.addr + 2 + disp.toInt)⟩],
        raw := [0x28 ||| (disp.extractLsb' 8 3).setWidth 8, disp.extractLsb' 0 8],
        calls := [s.addr + 2 + disp.toInt] }

/-- O36. For every bit index, register and displacement byte, JBC and JBS complete with operands
REG, BITNO and CADD addr + 3 + disp8, the register offered to XREF, and one jump edge. (R111,
R114, R170, R171, R172.) -/
def Obligations.BitTestJumps : Prop :=
  ∀ x ∈ ([(.jbc, 0x30, "JBC"), (.jbs, 0x38, "JBS")] :
      List ((BitVec 3 → Byte → Byte → Instr) × Byte × String)),
    ∀ (s : State) (bitno : BitVec 3) (reg disp : Byte), Completes (x.1 bitno reg disp) s
      { opcode := x.2.1 ||| bitno.setWidth 8, mnemonic := x.2.2, mode := .relative,
        operands := [⟨"reg", .reg reg⟩, ⟨"bitno", .bitno bitno⟩,
          ⟨"cadd", .cadd (s.addr + 3 + disp.toInt)⟩],
        raw := [x.2.1 ||| bitno.setWidth 8, reg, disp], regs := [reg],
        jumps := [s.addr + 3 + disp.toInt] }

/-- O37. For every displacement byte, each of the opcodes 0xD0 to 0xDF completes with the code
address addr + 2 + disp8 and one jump edge to it, no call and no cross-reference. (R111, R114,
R180.) -/
def Obligations.ConditionalJumps : Prop :=
  ∀ x ∈ ([(.jnst, 0xD0, "JNST"), (.jnh, 0xD1, "JNH"), (.jgt, 0xD2, "JGT"), (.jnc, 0xD3, "JNC"),
      (.jnvt, 0xD4, "JNVT"), (.jnv, 0xD5, "JNV"), (.jge, 0xD6, "JGE"), (.jne, 0xD7, "JNE"),
      (.jst, 0xD8, "JST"), (.jh, 0xD9, "JH"), (.jle, 0xDA, "JLE"), (.jc, 0xDB, "JC"),
      (.jvt, 0xDC, "JVT"), (.jv, 0xDD, "JV"), (.jlt, 0xDE, "JLT"), (.je, 0xDF, "JE")] : List ((Byte → Instr) × Byte × String)),
    ∀ (s : State) (disp : Byte), Completes (x.1 disp) s
      { opcode := x.2.1, mnemonic := x.2.2, mode := .relative,
        operands := [⟨"cadd", .cadd (s.addr + 2 + disp.toInt)⟩], raw := [x.2.1, disp],
        jumps := [s.addr + 2 + disp.toInt] }

/-- O38. For every register and displacement byte, DJNZ and DJNZW complete with REG and CADD addr +
3 + disp8, the register offered to XREF, and one jump edge. (R111, R114, R230, R231, R232.) -/
def Obligations.LoopJumps : Prop :=
  ∀ x ∈ ([(.djnz, 0xE0, "DJNZ"), (.djnzw, 0xE1, "DJNZW")] : List ((Byte → Byte → Instr) × Byte × String)),
    ∀ (s : State) (cnt disp : Byte), Completes (x.1 cnt disp) s
      { opcode := x.2.1, mnemonic := x.2.2, mode := .relative,
        operands := [⟨"cnt", .reg cnt⟩, ⟨"cadd", .cadd (s.addr + 3 + disp.toInt)⟩],
        raw := [x.2.1, cnt, disp], regs := [cnt], jumps := [s.addr + 3 + disp.toInt] }

/-- O39. For every pointer byte: with bit 0 clear, 0xE3 completes as BR in mode indirect with IND of
the byte masked with IND_PTR_MASK; with bit 0 set, as EBR in mode extended-indirect with EIND of
the byte masked with EXT_PTR_MASK. Both emit a jump to the register number, whatever it is, and
offer it to XREF; the edges carry the rewritten mnemonic; AutoIncrement stays clear. (R123,
R124, R233.) -/
def Obligations.BranchIndirect : Prop :=
  ∀ (s : State) (ptr : Byte),
    (bit0 ptr = false → Completes (.ebr ptr) s
      { opcode := 0xE3, mnemonic := "BR", mode := .indirect,
        operands := [⟨"ptr", .ind (ptr &&& s.cfg.indPtrMask)⟩], raw := [0xE3, ptr],
        regs := [ptr &&& s.cfg.indPtrMask], jumps := [(ptr &&& s.cfg.indPtrMask).toNat] }) ∧
    (bit0 ptr = true → Completes (.ebr ptr) s
      { opcode := 0xE3, mnemonic := "EBR", mode := .extendedIndirect,
        operands := [⟨"ptr", .eind (ptr &&& s.cfg.extPtrMask)⟩], raw := [0xE3, ptr],
        regs := [ptr &&& s.cfg.extPtrMask], jumps := [(ptr &&& s.cfg.extPtrMask).toNat] })

/-- O40. For every 24-bit displacement, EJMP and ECALL complete with XCADD of the masked target from
addr + 4, a jump edge for EJMP and a call edge for ECALL, and no cross-reference. (R113, R200,
R202, R236.) -/
def Obligations.ExtendedJumpAndCall : Prop :=
  ∀ (s : State) (disp : BitVec 24),
    Completes (.ejmp disp) s
      { opcode := 0xE6, mnemonic := "EJMP", mode := .extendedRelative,
        operands := [⟨"cadd", .xcadd (xtarget s.cfg (s.addr + 4) disp.toInt)⟩],
        raw := [0xE6, disp.extractLsb' 0 8, disp.extractLsb' 8 8, disp.extractLsb' 16 8],
        jumps := [xtarget s.cfg (s.addr + 4) disp.toInt] } ∧
    Completes (.ecall disp) s
      { opcode := 0xF1, mnemonic := "ECALL", mode := .extendedRelative,
        operands := [⟨"cadd", .xcadd (xtarget s.cfg (s.addr + 4) disp.toInt)⟩],
        raw := [0xF1, disp.extractLsb' 0 8, disp.extractLsb' 8 8, disp.extractLsb' 16 8],
        calls := [xtarget s.cfg (s.addr + 4) disp.toInt] }

/-- O41. For every 16-bit displacement, LJMP and LCALL complete with the code address addr + 3 +
disp16, not masked, a jump edge for LJMP and a call edge for LCALL, and no cross-reference.
(R112, R114, R237, R238.) -/
def Obligations.LongJumpAndCall : Prop :=
  ∀ (s : State) (disp : Word),
    Completes (.ljmp disp) s
      { opcode := 0xE7, mnemonic := "LJMP", mode := .relative,
        operands := [⟨"cadd", .cadd (s.addr + 3 + disp.toInt)⟩],
        raw := [0xE7, disp.extractLsb' 0 8, disp.extractLsb' 8 8],
        jumps := [s.addr + 3 + disp.toInt] } ∧
    Completes (.lcall disp) s
      { opcode := 0xEF, mnemonic := "LCALL", mode := .relative,
        operands := [⟨"cadd", .cadd (s.addr + 3 + disp.toInt)⟩],
        raw := [0xEF, disp.extractLsb' 0 8, disp.extractLsb' 8 8],
        calls := [s.addr + 3 + disp.toInt] }

/-- O42. TIJMP completes with REG tbase, IMM8 mask and IND of the masked index byte, from the bytes
index, mask, tbase, and no jump edge; EBMOVI with two registers, the last byte first; IDLPD with
its key byte as IMM8, whatever it is. (R135, R207, R234, R235.) -/
def Obligations.FixedLayoutInstructions : Prop :=
  (∀ (s : State) (tbase mask index : Byte), Completes (.tijmp tbase mask index) s
      { opcode := 0xE2, mnemonic := "TIJMP", mode := .fixed,
        operands := [⟨"tbase", .reg tbase⟩, ⟨"mask", .imm8 mask⟩,
          ⟨"index", .ind (index &&& s.cfg.indPtrMask)⟩],
        raw := [0xE2, index, mask, tbase], regs := [tbase] }) ∧
  (∀ (s : State) (ptrs cnt : Byte), Completes (.ebmovi ptrs cnt) s
      { opcode := 0xE4, mnemonic := "EBMOVI", mode := .fixed,
        operands := [⟨"ptrs", .reg ptrs⟩, ⟨"cnt", .reg cnt⟩], raw := [0xE4, cnt, ptrs],
        regs := [ptrs, cnt] }) ∧
  ∀ (s : State) (key : Byte), Completes (.idlpd key) s
      { opcode := 0xF6, mnemonic := "IDLPD", mode := .fixed, operands := [⟨"key", .imm8 key⟩],
        raw := [0xF6, key] }

/-- O43. The extended-indirect ELD and ELDB complete with EIND of the byte masked with EXT_PTR_MASK;
the extended-indexed ELD, ELDB, EST and ESTB with EIDX of the masked pointer and the raw 24-bit
displacement, neither sign-extended nor masked; the plain register is the last byte and the only
one offered to XREF. (R132, R133, R239, R240, R282, R308, R309.) -/
def Obligations.ExtendedLoadsAndStores : Prop :=
  (∀ x ∈ ([(.eldEInd, 0xE8, "ELD"), (.eldbEInd, 0xEA, "ELDB")] : List ((Byte → Byte → Instr) × Byte × String)),
      ∀ (s : State) (dst ptr : Byte), Completes (x.1 dst ptr) s
        { opcode := x.2.1, mnemonic := x.2.2, mode := .extendedIndirect,
          operands := [⟨"dst", .reg dst⟩, ⟨"src", .eind (ptr &&& s.cfg.extPtrMask)⟩],
          raw := [x.2.1, ptr, dst], regs := [dst] }) ∧
  ∀ x ∈ ([(.estEIdx, 0x1D, "EST", "src", "dst"), (.estbEIdx, 0x1F, "ESTB", "src", "dst"),
      (.eldEIdx, 0xE9, "ELD", "dst", "src"), (.eldbEIdx, 0xEB, "ELDB", "dst", "src")] :
      List ((Byte → Byte → BitVec 24 → Instr) × Byte × String × String × String)),
    ∀ (s : State) (reg ptr : Byte) (disp : BitVec 24), Completes (x.1 reg ptr disp) s
      { opcode := x.2.1, mnemonic := x.2.2.1, mode := .extendedIndexed,
        operands := [⟨x.2.2.2.1, .reg reg⟩, ⟨x.2.2.2.2, .eidx (ptr &&& s.cfg.extPtrMask) disp⟩],
        raw := [x.2.1, ptr, disp.extractLsb' 0 8, disp.extractLsb' 8 8, disp.extractLsb' 16 8, reg],
        regs := [reg] }

/-- O44. The twelve one-operand opcodes (clear, complement, negate, decrement, extend, increment)
complete with one register; XCH and XCHB direct and NORML with two, the last byte first. No byte
is reinterpreted as an immediate: bit 3 of the opcode is clear, or it is 0x0F. (R280, R281,
R284, R287, R297, R301.) -/
def Obligations.LowGroupRegisters : Prop :=
  (∀ x ∈ ([(.clrw, 0x01, "CLRW"), (.notw, 0x02, "NOTW"), (.negw, 0x03, "NEGW"),
      (.decw, 0x05, "DECW"), (.ext, 0x06, "EXT"), (.incw, 0x07, "INCW"), (.clrb, 0x11, "CLRB"),
      (.notb, 0x12, "NOTB"), (.negb, 0x13, "NEGB"), (.decb, 0x15, "DECB"),
      (.extb, 0x16, "EXTB"), (.incb, 0x17, "INCB")] : List ((Byte → Instr) × Byte × String)),
      ∀ (s : State) (dst : Byte), Completes (x.1 dst) s
        { opcode := x.2.1, mnemonic := x.2.2, mode := .direct, operands := [⟨"dst", .reg dst⟩],
          raw := [x.2.1, dst], regs := [dst] }) ∧
  ∀ x ∈ ([(.xchDir, 0x04, "XCH", "src"), (.norml, 0x0F, "NORML", "cnt"),
      (.xchbDir, 0x14, "XCHB", "src")] : List ((Byte → Byte → Instr) × Byte × String × String)),
    ∀ (s : State) (dst other : Byte), Completes (x.1 dst other) s
      { opcode := x.2.1, mnemonic := x.2.2.1, mode := .direct,
        operands := [⟨"dst", .reg dst⟩, ⟨x.2.2.2, .reg other⟩], raw := [x.2.1, other, dst],
        regs := [dst, other] }

/-- O45. For the nine shifts of the low group and the extended-indirect EST and ESTB, the first
declared operand is the register in the last byte, and the second is IMM8 when its byte is below
0x10, and then not offered to XREF, else an unmasked REG that is; the EST and ESTB pointer is
neither masked nor tagged EIND. (R280, R281, R291, R308, R309.) -/
def Obligations.LowGroupCounts : Prop :=
  ∀ x ∈ ([(.shrw, 0x08, "SHRW", .direct, "dst", "cnt"),
      (.shlw, 0x09, "SHLW", .direct, "dst", "cnt"),
      (.shraw, 0x0A, "SHRAW", .direct, "dst", "cnt"),
      (.shrl, 0x0C, "SHRL", .direct, "dst", "cnt"),
      (.shll, 0x0D, "SHLL", .direct, "dst", "cnt"),
      (.shral, 0x0E, "SHRAL", .direct, "dst", "cnt"),
      (.shrb, 0x18, "SHRB", .direct, "dst", "cnt"),
      (.shlb, 0x19, "SHLB", .direct, "dst", "cnt"),
      (.shrab, 0x1A, "SHRAB", .direct, "dst", "cnt"),
      (.estEInd, 0x1C, "EST", .extendedIndirect, "src", "dst"),
      (.estbEInd, 0x1E, "ESTB", .extendedIndirect, "src", "dst")] :
      List ((Byte → Byte → Instr) × Byte × String × Mode × String × String)),
    ∀ (s : State) (first last : Byte), Completes (x.1 first last) s
      { opcode := x.2.1, mnemonic := x.2.2.1, mode := x.2.2.2.1,
        operands := [⟨x.2.2.2.2.1, .reg first⟩, ⟨x.2.2.2.2.2, countValue last⟩],
        raw := [x.2.1, last, first], regs := countRegs first last }

/-- O46. With bit 0 of the base byte clear, 0x0B and 0x1B complete in mode short-indexed with the
offset byte as second operand; with it set, in mode long-indexed, one byte longer, with the high
offset byte: an IMM8 below 0x10, else a REG offered to XREF. The base byte is read for its bit 0
alone. (R81, R280, R281, R287, R301.) -/
def Obligations.IndexedExchange : Prop :=
  ∀ x ∈ ([(.xchIdx, 0x0B, "XCH"), (.xchbIdx, 0x1B, "XCHB")] : List ((Byte → Byte → IndexOffset → Instr) × Byte × String)),
    ∀ (s : State) (dst base : Byte),
      (bit0 base = false → ∀ off : Byte, Completes (x.1 dst base (.byte off)) s
        { opcode := x.2.1, mnemonic := x.2.2, mode := .shortIndexed, variableLength := true,
          operands := [⟨"dst", .reg dst⟩, ⟨"src", countValue off⟩],
          raw := [x.2.1, base, off, dst], regs := countRegs dst off }) ∧
      (bit0 base = true → ∀ off : Word, Completes (x.1 dst base (.word off)) s
        { opcode := x.2.1, mnemonic := x.2.2, mode := .longIndexed, variableLength := true,
          operands := [⟨"dst", .reg dst⟩, ⟨"src", countValue (off.extractLsb' 8 8)⟩],
          raw := [x.2.1, base, off.extractLsb' 0 8, off.extractLsb' 8 8, dst],
          regs := countRegs dst (off.extractLsb' 8 8) })

/-- O47. ST, STB, BMOV, BMOVI and CMPL direct complete with two registers, the last byte first; PUSH
and POP direct with one; all are offered to XREF. PUSH immediate completes with IMM16, low byte
first, and no cross-reference. (R127, R128, R260, R261, R262, R265.) -/
def Obligations.CxDirectAndImmediate : Prop :=
  (∀ x ∈ ([(.stDir, 0xC0, "ST", "src", "dst"), (.bmov, 0xC1, "BMOV", "ptrs", "cnt"),
      (.stbDir, 0xC4, "STB", "src", "dst"), (.cmpl, 0xC5, "CMPL", "dst", "src"),
      (.bmovi, 0xCD, "BMOVI", "ptrs", "cnt")] :
      List ((Byte → Byte → Instr) × Byte × String × String × String)),
      ∀ (s : State) (a b : Byte), Completes (x.1 a b) s
        { opcode := x.2.1, mnemonic := x.2.2.1, mode := .direct,
          operands := [⟨x.2.2.2.1, .reg a⟩, ⟨x.2.2.2.2, .reg b⟩], raw := [x.2.1, b, a],
          regs := [a, b] }) ∧
  (∀ x ∈ ([(.pushDir, 0xC8, "PUSH", "src"), (.popDir, 0xCC, "POP", "dst")] : List ((Byte → Instr) × Byte × String × String)),
      ∀ (s : State) (a : Byte), Completes (x.1 a) s
        { opcode := x.2.1, mnemonic := x.2.2.1, mode := .direct,
          operands := [⟨x.2.2.2, .reg a⟩], raw := [x.2.1, a], regs := [a] }) ∧
  ∀ (s : State) (imm : Word), Completes (.pushImm imm) s
      { opcode := 0xC9, mnemonic := "PUSH", mode := .immediate, operands := [⟨"src", .imm16 imm⟩],
        raw := [0xC9, imm.extractLsb' 0 8, imm.extractLsb' 8 8] }

/-- O48. For every pointer byte, ST and STB indirect complete with the register and IND of the
masked pointer, or INDINC in mode indirect+ with AutoIncrement when its bit 0 is set; PUSH and
POP with the pointer alone. Only the register is offered to XREF. (R82, R129, R261, R263, R265,
R266.) -/
def Obligations.CxIndirect : Prop :=
  (∀ x ∈ ([(.stInd, 0xC2, "ST"), (.stbInd, 0xC6, "STB")] : List ((Byte → Byte → Instr) × Byte × String)),
      ∀ (s : State) (src ptr : Byte), Completes (x.1 src ptr) s
        { opcode := x.2.1, mnemonic := x.2.2, mode := indirectMode (bit0 ptr),
          autoIncrement := bit0 ptr,
          operands := [⟨"src", .reg src⟩,
            ⟨"dst", indirectValue (bit0 ptr) (ptr &&& s.cfg.indPtrMask)⟩],
          raw := [x.2.1, ptr, src], regs := [src] }) ∧
  ∀ x ∈ ([(.pushInd, 0xCA, "PUSH", "src"), (.popInd, 0xCE, "POP", "dst")] : List ((Byte → Instr) × Byte × String × String)),
    ∀ (s : State) (ptr : Byte), Completes (x.1 ptr) s
      { opcode := x.2.1, mnemonic := x.2.2.1, mode := indirectMode (bit0 ptr),
        autoIncrement := bit0 ptr,
        operands := [⟨x.2.2.2, indirectValue (bit0 ptr) (ptr &&& s.cfg.indPtrMask)⟩],
        raw := [x.2.1, ptr] }

/-- O49. With bit 0 of the base byte clear, ST, STB, PUSH and POP indexed complete in mode short-
indexed with SIDX of the masked base and the byte offset; with it set, in mode long-indexed, one
byte longer, with LIDX of the masked base and the word offset, low byte first. Only the register
of ST and STB is offered to XREF. (R81, R130, R131, R261, R263, R265, R266.) -/
def Obligations.CxIndexed : Prop :=
  (∀ x ∈ ([(.stIdx, 0xC3, "ST"), (.stbIdx, 0xC7, "STB")] : List ((Byte → Byte → IndexOffset → Instr) × Byte × String)),
      ∀ (s : State) (src base : Byte),
      (bit0 base = false → ∀ off : Byte, Completes (x.1 src base (.byte off)) s
        { opcode := x.2.1, mnemonic := x.2.2, mode := .shortIndexed, variableLength := true,
          operands := [⟨"src", .reg src⟩, ⟨"dst", .sidx (base &&& s.cfg.indPtrMask) off⟩],
          raw := [x.2.1, base, off, src], regs := [src] }) ∧
      (bit0 base = true → ∀ off : Word, Completes (x.1 src base (.word off)) s
        { opcode := x.2.1, mnemonic := x.2.2, mode := .longIndexed, variableLength := true,
          operands := [⟨"src", .reg src⟩, ⟨"dst", .lidx (base &&& s.cfg.indPtrMask) off⟩],
          raw := [x.2.1, base, off.extractLsb' 0 8, off.extractLsb' 8 8, src], regs := [src] })) ∧
  ∀ x ∈ ([(.pushIdx, 0xCB, "PUSH", "src"), (.popIdx, 0xCF, "POP", "dst")] : List ((Byte → IndexOffset → Instr) × Byte × String × String)),
    ∀ (s : State) (base : Byte),
      (bit0 base = false → ∀ off : Byte, Completes (x.1 base (.byte off)) s
        { opcode := x.2.1, mnemonic := x.2.2.1, mode := .shortIndexed, variableLength := true,
          operands := [⟨x.2.2.2, .sidx (base &&& s.cfg.indPtrMask) off⟩],
          raw := [x.2.1, base, off] }) ∧
      (bit0 base = true → ∀ off : Word, Completes (x.1 base (.word off)) s
        { opcode := x.2.1, mnemonic := x.2.2.1, mode := .longIndexed, variableLength := true,
          operands := [⟨x.2.2.2, .lidx (base &&& s.cfg.indPtrMask) off⟩],
          raw := [x.2.1, base, off.extractLsb' 0 8, off.extractLsb' 8 8] })

/-- O50. The eight three-operand and twenty-four two-operand direct opcodes of 0x40 to 0xBF complete
with every operand a register, the last byte first, offered to XREF in declared order, and no
call or jump. (R77, R121, R127, R320, R322, R330.) -/
def Obligations.MiddleDirect : Prop :=
  (∀ x ∈ ([(.and3Dir, 0x40, "AND"), (.add3Dir, 0x44, "ADD"), (.sub3Dir, 0x48, "SUB"),
      (.mulu3Dir, 0x4C, "MULU"), (.andb3Dir, 0x50, "ANDB"), (.addb3Dir, 0x54, "ADDB"),
      (.subb3Dir, 0x58, "SUBB"), (.mulub3Dir, 0x5C, "MULUB")] : List ((Byte → Byte → Byte → Instr) × Byte × String)),
      ∀ (s : State) (dst src1 src2 : Byte), Completes (x.1 dst src1 src2) s
        { opcode := x.2.1, mnemonic := x.2.2, mode := .direct,
          operands := [⟨"dst", .reg dst⟩, ⟨"src1", .reg src1⟩, ⟨"src2", .reg src2⟩],
          raw := [x.2.1, src2, src1, dst], regs := [dst, src1, src2] }) ∧
  ∀ x ∈ ([(.andDir, 0x60, "AND"), (.addDir, 0x64, "ADD"), (.subDir, 0x68, "SUB"),
      (.muluDir, 0x6C, "MULU"), (.andbDir, 0x70, "ANDB"), (.addbDir, 0x74, "ADDB"),
      (.subbDir, 0x78, "SUBB"), (.mulubDir, 0x7C, "MULUB"), (.orDir, 0x80, "OR"),
      (.xorDir, 0x84, "XOR"), (.cmpDir, 0x88, "CMP"), (.divuDir, 0x8C, "DIVU"),
      (.orbDir, 0x90, "ORB"), (.xorbDir, 0x94, "XORB"), (.cmpbDir, 0x98, "CMPB"),
      (.divubDir, 0x9C, "DIVUB"), (.ldDir, 0xA0, "LD"), (.addcDir, 0xA4, "ADDC"),
      (.subcDir, 0xA8, "SUBC"), (.ldbzeDir, 0xAC, "LDBZE"), (.ldbDir, 0xB0, "LDB"),
      (.addcbDir, 0xB4, "ADDCB"), (.subcbDir, 0xB8, "SUBCB"), (.ldbseDir, 0xBC, "LDBSE")] : List ((Byte → Byte → Instr) × Byte × String)),
    ∀ (s : State) (dst src : Byte), Completes (x.1 dst src) s
      { opcode := x.2.1, mnemonic := x.2.2, mode := .direct,
        operands := [⟨"dst", .reg dst⟩, ⟨"src", .reg src⟩],
        raw := [x.2.1, src, dst], regs := [dst, src] }

/-- O51. The immediate opcodes of 0x40 to 0xBF complete with the leading registers, offered to XREF,
and IMM16 (low byte first) in the word forms or IMM8 in the byte forms, which is not. (R128,
R320, R322, R326, R330, R349.) -/
def Obligations.MiddleImmediate : Prop :=
  (∀ x ∈ ([(.and3Imm, 0x41, "AND"), (.add3Imm, 0x45, "ADD"), (.sub3Imm, 0x49, "SUB"),
      (.mulu3Imm, 0x4D, "MULU")] : List ((Byte → Byte → Word → Instr) × Byte × String)),
      ∀ (s : State) (dst src1 : Byte) (imm : Word), Completes (x.1 dst src1 imm) s
        { opcode := x.2.1, mnemonic := x.2.2, mode := .immediate,
          operands := [⟨"dst", .reg dst⟩, ⟨"src1", .reg src1⟩, ⟨"src2", .imm16 imm⟩],
          raw := [x.2.1, imm.extractLsb' 0 8, imm.extractLsb' 8 8, src1, dst],
          regs := [dst, src1] }) ∧
  (∀ x ∈ ([(.andb3Imm, 0x51, "ANDB"), (.addb3Imm, 0x55, "ADDB"), (.subb3Imm, 0x59, "SUBB"),
      (.mulub3Imm, 0x5D, "MULUB")] : List ((Byte → Byte → Byte → Instr) × Byte × String)),
      ∀ (s : State) (dst src1 imm : Byte), Completes (x.1 dst src1 imm) s
        { opcode := x.2.1, mnemonic := x.2.2, mode := .immediate,
          operands := [⟨"dst", .reg dst⟩, ⟨"src1", .reg src1⟩, ⟨"src2", .imm8 imm⟩],
          raw := [x.2.1, imm, src1, dst], regs := [dst, src1] }) ∧
  (∀ x ∈ ([(.andImm, 0x61, "AND"), (.addImm, 0x65, "ADD"), (.subImm, 0x69, "SUB"),
      (.muluImm, 0x6D, "MULU"), (.orImm, 0x81, "OR"), (.xorImm, 0x85, "XOR"),
      (.cmpImm, 0x89, "CMP"), (.divuImm, 0x8D, "DIVU"), (.ldImm, 0xA1, "LD"),
      (.addcImm, 0xA5, "ADDC"), (.subcImm, 0xA9, "SUBC")] : List ((Byte → Word → Instr) × Byte × String)),
      ∀ (s : State) (dst : Byte) (imm : Word), Completes (x.1 dst imm) s
        { opcode := x.2.1, mnemonic := x.2.2, mode := .immediate,
          operands := [⟨"dst", .reg dst⟩, ⟨"src", .imm16 imm⟩],
          raw := [x.2.1, imm.extractLsb' 0 8, imm.extractLsb' 8 8, dst], regs := [dst] }) ∧
  ∀ x ∈ ([(.andbImm, 0x71, "ANDB"), (.addbImm, 0x75, "ADDB"), (.subbImm, 0x79, "SUBB"),
      (.mulubImm, 0x7D, "MULUB"), (.orbImm, 0x91, "ORB"), (.xorbImm, 0x95, "XORB"),
      (.cmpbImm, 0x99, "CMPB"), (.divubImm, 0x9D, "DIVUB"), (.ldbzeImm, 0xAD, "LDBZE"),
      (.ldbImm, 0xB1, "LDB"), (.addcbImm, 0xB5, "ADDCB"), (.subcbImm, 0xB9, "SUBCB"),
      (.ldbseImm, 0xBD, "LDBSE")] : List ((Byte → Byte → Instr) × Byte × String)),
    ∀ (s : State) (dst imm : Byte), Completes (x.1 dst imm) s
      { opcode := x.2.1, mnemonic := x.2.2, mode := .immediate,
        operands := [⟨"dst", .reg dst⟩, ⟨"src", .imm8 imm⟩],
        raw := [x.2.1, imm, dst], regs := [dst] }

/-- O52. For every pointer byte, the indirect opcodes of 0x40 to 0xBF complete with the leading
registers and IND of the masked pointer, or INDINC in mode indirect+ with AutoIncrement when bit
0 of the pointer byte is set; the length is the same, and the pointer is not offered to XREF.
(R82, R129, R320, R322, R330.) -/
def Obligations.MiddleIndirect : Prop :=
  (∀ x ∈ ([(.and3Ind, 0x42, "AND"), (.add3Ind, 0x46, "ADD"), (.sub3Ind, 0x4A, "SUB"),
      (.mulu3Ind, 0x4E, "MULU"), (.andb3Ind, 0x52, "ANDB"), (.addb3Ind, 0x56, "ADDB"),
      (.subb3Ind, 0x5A, "SUBB"), (.mulub3Ind, 0x5E, "MULUB")] : List ((Byte → Byte → Byte → Instr) × Byte × String)),
      ∀ (s : State) (dst src1 ptr : Byte), Completes (x.1 dst src1 ptr) s
        { opcode := x.2.1, mnemonic := x.2.2, mode := indirectMode (bit0 ptr),
          autoIncrement := bit0 ptr,
          operands := [⟨"dst", .reg dst⟩, ⟨"src1", .reg src1⟩,
            ⟨"src2", indirectValue (bit0 ptr) (ptr &&& s.cfg.indPtrMask)⟩],
          raw := [x.2.1, ptr, src1, dst], regs := [dst, src1] }) ∧
  ∀ x ∈ ([(.andInd, 0x62, "AND"), (.addInd, 0x66, "ADD"), (.subInd, 0x6A, "SUB"),
      (.muluInd, 0x6E, "MULU"), (.andbInd, 0x72, "ANDB"), (.addbInd, 0x76, "ADDB"),
      (.subbInd, 0x7A, "SUBB"), (.mulubInd, 0x7E, "MULUB"), (.orInd, 0x82, "OR"),
      (.xorInd, 0x86, "XOR"), (.cmpInd, 0x8A, "CMP"), (.divuInd, 0x8E, "DIVU"),
      (.orbInd, 0x92, "ORB"), (.xorbInd, 0x96, "XORB"), (.cmpbInd, 0x9A, "CMPB"),
      (.divubInd, 0x9E, "DIVUB"), (.ldInd, 0xA2, "LD"), (.addcInd, 0xA6, "ADDC"),
      (.subcInd, 0xAA, "SUBC"), (.ldbzeInd, 0xAE, "LDBZE"), (.ldbInd, 0xB2, "LDB"),
      (.addcbInd, 0xB6, "ADDCB"), (.subcbInd, 0xBA, "SUBCB"), (.ldbseInd, 0xBE, "LDBSE")] : List ((Byte → Byte → Instr) × Byte × String)),
    ∀ (s : State) (dst ptr : Byte), Completes (x.1 dst ptr) s
      { opcode := x.2.1, mnemonic := x.2.2, mode := indirectMode (bit0 ptr),
        autoIncrement := bit0 ptr,
        operands := [⟨"dst", .reg dst⟩,
          ⟨"src", indirectValue (bit0 ptr) (ptr &&& s.cfg.indPtrMask)⟩],
        raw := [x.2.1, ptr, dst], regs := [dst] }

/-- O53. With bit 0 of the base byte clear, the indexed opcodes of 0x40 to 0xBF complete in mode
short-indexed with SIDX of the masked base and the byte offset; with it set, in mode long-
indexed, one byte longer, with LIDX of the masked base and the word offset, low byte first.
VariableLength is set in both; only the leading registers are offered to XREF. (R31, R81, R130,
R131, R320, R322, R330.) -/
def Obligations.MiddleIndexed : Prop :=
  (∀ x ∈ ([(.and3Idx, 0x43, "AND"), (.add3Idx, 0x47, "ADD"), (.sub3Idx, 0x4B, "SUB"),
      (.mulu3Idx, 0x4F, "MULU"), (.andb3Idx, 0x53, "ANDB"), (.addb3Idx, 0x57, "ADDB"),
      (.subb3Idx, 0x5B, "SUBB"), (.mulub3Idx, 0x5F, "MULUB")] :
      List ((Byte → Byte → Byte → IndexOffset → Instr) × Byte × String)),
      ∀ (s : State) (dst src1 base : Byte),
      (bit0 base = false → ∀ off : Byte, Completes (x.1 dst src1 base (.byte off)) s
        { opcode := x.2.1, mnemonic := x.2.2, mode := .shortIndexed, variableLength := true,
          operands := [⟨"dst", .reg dst⟩, ⟨"src1", .reg src1⟩,
            ⟨"src2", .sidx (base &&& s.cfg.indPtrMask) off⟩],
          raw := [x.2.1, base, off, src1, dst], regs := [dst, src1] }) ∧
      (bit0 base = true → ∀ off : Word, Completes (x.1 dst src1 base (.word off)) s
        { opcode := x.2.1, mnemonic := x.2.2, mode := .longIndexed, variableLength := true,
          operands := [⟨"dst", .reg dst⟩, ⟨"src1", .reg src1⟩,
            ⟨"src2", .lidx (base &&& s.cfg.indPtrMask) off⟩],
          raw := [x.2.1, base, off.extractLsb' 0 8, off.extractLsb' 8 8, src1, dst],
          regs := [dst, src1] })) ∧
  ∀ x ∈ ([(.andIdx, 0x63, "AND"), (.addIdx, 0x67, "ADD"), (.subIdx, 0x6B, "SUB"),
      (.muluIdx, 0x6F, "MULU"), (.andbIdx, 0x73, "ANDB"), (.addbIdx, 0x77, "ADDB"),
      (.subbIdx, 0x7B, "SUBB"), (.mulubIdx, 0x7F, "MULUB"), (.orIdx, 0x83, "OR"),
      (.xorIdx, 0x87, "XOR"), (.cmpIdx, 0x8B, "CMP"), (.divuIdx, 0x8F, "DIVU"),
      (.orbIdx, 0x93, "ORB"), (.xorbIdx, 0x97, "XORB"), (.cmpbIdx, 0x9B, "CMPB"),
      (.divubIdx, 0x9F, "DIVUB"), (.ldIdx, 0xA3, "LD"), (.addcIdx, 0xA7, "ADDC"),
      (.subcIdx, 0xAB, "SUBC"), (.ldbzeIdx, 0xAF, "LDBZE"), (.ldbIdx, 0xB3, "LDB"),
      (.addcbIdx, 0xB7, "ADDCB"), (.subcbIdx, 0xBB, "SUBCB"), (.ldbseIdx, 0xBF, "LDBSE")] : List ((Byte → Byte → IndexOffset → Instr) × Byte × String)),
    ∀ (s : State) (dst base : Byte),
      (bit0 base = false → ∀ off : Byte, Completes (x.1 dst base (.byte off)) s
        { opcode := x.2.1, mnemonic := x.2.2, mode := .shortIndexed, variableLength := true,
          operands := [⟨"dst", .reg dst⟩, ⟨"src", .sidx (base &&& s.cfg.indPtrMask) off⟩],
          raw := [x.2.1, base, off, dst], regs := [dst] }) ∧
      (bit0 base = true → ∀ off : Word, Completes (x.1 dst base (.word off)) s
        { opcode := x.2.1, mnemonic := x.2.2, mode := .longIndexed, variableLength := true,
          operands := [⟨"dst", .reg dst⟩, ⟨"src", .lidx (base &&& s.cfg.indPtrMask) off⟩],
          raw := [x.2.1, base, off.extractLsb' 0 8, off.extractLsb' 8 8, dst],
          regs := [dst] })

/-- O54. FE 4C, FE 5C, FE 6C, FE 7C, FE 8C and FE 9C complete signed, with the prefix in raw and not
in raw_ops, the mnemonic SGN and the signed name, and every operand a register. (R76, R84, R127,
R359, R360.) -/
def Obligations.SignedDirect : Prop :=
  (∀ x ∈ ([(.mul3Dir, 0x4C, "SGN MUL"), (.mulb3Dir, 0x5C, "SGN MULB")] : List ((Byte → Byte → Byte → Instr) × Byte × String)),
      ∀ (s : State) (dst src1 src2 : Byte), Completes (x.1 dst src1 src2) s
        { opcode := x.2.1, signed := true, mnemonic := x.2.2, mode := .direct,
          operands := [⟨"dst", .reg dst⟩, ⟨"src1", .reg src1⟩, ⟨"src2", .reg src2⟩],
          raw := [s.cfg.signedPrefix, x.2.1, src2, src1, dst], regs := [dst, src1, src2] }) ∧
  ∀ x ∈ ([(.mulDir, 0x6C, "SGN MUL"), (.mulbDir, 0x7C, "SGN MULB"), (.divDir, 0x8C, "SGN DIV"),
      (.divbDir, 0x9C, "SGN DIVB")] : List ((Byte → Byte → Instr) × Byte × String)),
    ∀ (s : State) (dst src : Byte), Completes (x.1 dst src) s
      { opcode := x.2.1, signed := true, mnemonic := x.2.2, mode := .direct,
        operands := [⟨"dst", .reg dst⟩, ⟨"src", .reg src⟩],
        raw := [s.cfg.signedPrefix, x.2.1, src, dst], regs := [dst, src] }

/-- O55. FE 4D, FE 6D and FE 8D complete with IMM16, FE 5D, FE 7D and FE 9D with IMM8, after the
leading registers. (R76, R84, R128, R359, R360, R361.) -/
def Obligations.SignedImmediate : Prop :=
  (∀ x ∈ ([(.mul3Imm, 0x4D, "SGN MUL")] : List ((Byte → Byte → Word → Instr) × Byte × String)),
      ∀ (s : State) (dst src1 : Byte) (imm : Word), Completes (x.1 dst src1 imm) s
        { opcode := x.2.1, signed := true, mnemonic := x.2.2, mode := .immediate,
          operands := [⟨"dst", .reg dst⟩, ⟨"src1", .reg src1⟩, ⟨"src2", .imm16 imm⟩],
          raw := [s.cfg.signedPrefix, x.2.1, imm.extractLsb' 0 8, imm.extractLsb' 8 8, src1, dst],
          regs := [dst, src1] }) ∧
  (∀ x ∈ ([(.mulb3Imm, 0x5D, "SGN MULB")] : List ((Byte → Byte → Byte → Instr) × Byte × String)),
      ∀ (s : State) (dst src1 imm : Byte), Completes (x.1 dst src1 imm) s
        { opcode := x.2.1, signed := true, mnemonic := x.2.2, mode := .immediate,
          operands := [⟨"dst", .reg dst⟩, ⟨"src1", .reg src1⟩, ⟨"src2", .imm8 imm⟩],
          raw := [s.cfg.signedPrefix, x.2.1, imm, src1, dst], regs := [dst, src1] }) ∧
  (∀ x ∈ ([(.mulImm, 0x6D, "SGN MUL"), (.divImm, 0x8D, "SGN DIV")] : List ((Byte → Word → Instr) × Byte × String)),
      ∀ (s : State) (dst : Byte) (imm : Word), Completes (x.1 dst imm) s
        { opcode := x.2.1, signed := true, mnemonic := x.2.2, mode := .immediate,
          operands := [⟨"dst", .reg dst⟩, ⟨"src", .imm16 imm⟩],
          raw := [s.cfg.signedPrefix, x.2.1, imm.extractLsb' 0 8, imm.extractLsb' 8 8, dst], regs := [dst] }) ∧
  ∀ x ∈ ([(.mulbImm, 0x7D, "SGN MULB"), (.divbImm, 0x9D, "SGN DIVB")] : List ((Byte → Byte → Instr) × Byte × String)),
    ∀ (s : State) (dst imm : Byte), Completes (x.1 dst imm) s
      { opcode := x.2.1, signed := true, mnemonic := x.2.2, mode := .immediate,
        operands := [⟨"dst", .reg dst⟩, ⟨"src", .imm8 imm⟩],
        raw := [s.cfg.signedPrefix, x.2.1, imm, dst], regs := [dst] }

/-- O56. For every pointer byte, the signed indirect opcodes complete with IND of the masked
pointer, or INDINC in mode indirect+ with AutoIncrement when SIGNED_MODE_BYTE is operand and bit
0 of the pointer byte is set. (R80, R82, R129, R359, R360.) -/
def Obligations.SignedIndirect : Prop :=
  (∀ x ∈ ([(.mul3Ind, 0x4E, "SGN MUL"), (.mulb3Ind, 0x5E, "SGN MULB")] : List ((Byte → Byte → Byte → Instr) × Byte × String)),
      ∀ (s : State) (dst src1 ptr : Byte), Completes (x.1 dst src1 ptr) s
        { opcode := x.2.1, signed := true, mnemonic := x.2.2, mode := indirectMode (signedIncrements s.cfg ptr),
          autoIncrement := signedIncrements s.cfg ptr,
          operands := [⟨"dst", .reg dst⟩, ⟨"src1", .reg src1⟩,
            ⟨"src2", indirectValue (signedIncrements s.cfg ptr) (ptr &&& s.cfg.indPtrMask)⟩],
          raw := [s.cfg.signedPrefix, x.2.1, ptr, src1, dst], regs := [dst, src1] }) ∧
  ∀ x ∈ ([(.mulInd, 0x6E, "SGN MUL"), (.mulbInd, 0x7E, "SGN MULB"), (.divInd, 0x8E, "SGN DIV"),
      (.divbInd, 0x9E, "SGN DIVB")] : List ((Byte → Byte → Instr) × Byte × String)),
    ∀ (s : State) (dst ptr : Byte), Completes (x.1 dst ptr) s
      { opcode := x.2.1, signed := true, mnemonic := x.2.2, mode := indirectMode (signedIncrements s.cfg ptr),
        autoIncrement := signedIncrements s.cfg ptr,
        operands := [⟨"dst", .reg dst⟩,
          ⟨"src", indirectValue (signedIncrements s.cfg ptr) (ptr &&& s.cfg.indPtrMask)⟩],
        raw := [s.cfg.signedPrefix, x.2.1, ptr, dst], regs := [dst] }

/-- O57. Under operand the signed indexed opcodes complete short-indexed when bit 0 of the base byte
is clear and long-indexed when it is set; under literal they complete long-indexed, with a word
offset, whatever the base byte. (R80, R81, R130, R131, R359, R360.) -/
def Obligations.SignedIndexed : Prop :=
  (∀ x ∈ ([(.mul3Idx, 0x4F, "SGN MUL"), (.mulb3Idx, 0x5F, "SGN MULB")] :
      List ((Byte → Byte → Byte → IndexOffset → Instr) × Byte × String)),
      ∀ (s : State) (dst src1 base : Byte),
      (signedIsLong s.cfg base = false → ∀ off : Byte, Completes (x.1 dst src1 base (.byte off)) s
        { opcode := x.2.1, signed := true, mnemonic := x.2.2, mode := .shortIndexed, variableLength := true,
          operands := [⟨"dst", .reg dst⟩, ⟨"src1", .reg src1⟩,
            ⟨"src2", .sidx (base &&& s.cfg.indPtrMask) off⟩],
          raw := [s.cfg.signedPrefix, x.2.1, base, off, src1, dst], regs := [dst, src1] }) ∧
      (signedIsLong s.cfg base = true → ∀ off : Word, Completes (x.1 dst src1 base (.word off)) s
        { opcode := x.2.1, signed := true, mnemonic := x.2.2, mode := .longIndexed, variableLength := true,
          operands := [⟨"dst", .reg dst⟩, ⟨"src1", .reg src1⟩,
            ⟨"src2", .lidx (base &&& s.cfg.indPtrMask) off⟩],
          raw := [s.cfg.signedPrefix, x.2.1, base, off.extractLsb' 0 8, off.extractLsb' 8 8, src1, dst],
          regs := [dst, src1] })) ∧
  ∀ x ∈ ([(.mulIdx, 0x6F, "SGN MUL"), (.mulbIdx, 0x7F, "SGN MULB"), (.divIdx, 0x8F, "SGN DIV"),
      (.divbIdx, 0x9F, "SGN DIVB")] : List ((Byte → Byte → IndexOffset → Instr) × Byte × String)),
    ∀ (s : State) (dst base : Byte),
      (signedIsLong s.cfg base = false → ∀ off : Byte, Completes (x.1 dst base (.byte off)) s
        { opcode := x.2.1, signed := true, mnemonic := x.2.2, mode := .shortIndexed, variableLength := true,
          operands := [⟨"dst", .reg dst⟩, ⟨"src", .sidx (base &&& s.cfg.indPtrMask) off⟩],
          raw := [s.cfg.signedPrefix, x.2.1, base, off, dst], regs := [dst] }) ∧
      (signedIsLong s.cfg base = true → ∀ off : Word, Completes (x.1 dst base (.word off)) s
        { opcode := x.2.1, signed := true, mnemonic := x.2.2, mode := .longIndexed, variableLength := true,
          operands := [⟨"dst", .reg dst⟩, ⟨"src", .lidx (base &&& s.cfg.indPtrMask) off⟩],
          raw := [s.cfg.signedPrefix, x.2.1, base, off.extractLsb' 0 8, off.extractLsb' 8 8, dst],
          regs := [dst] })

/-- O58. For every state and any two register-name services, a step under the one and a step under
the other answer alike: both fault, or both answer a next state, and the two next states differ
in the service alone, so that the outputs are equal. (R8, R140, R150.) -/
def Obligations.RegisterNamesNeverReachTheDecode : Prop :=
  ∀ (s : State) (names : List RegName),
    (∀ t, step s = .next t →
      step { s with cfg := { s.cfg with regNames := names } } =
        .next { t with cfg := { t.cfg with regNames := names } }) ∧
    (∀ f, step s = .fault f → step { s with cfg := { s.cfg with regNames := names } } = .fault f)
end

