-- ==== Sys2Proof/Laws/Bits.lean ====
section
/-! SUPPORT. Bit fields: `le16` and `le24` against `byteOf`, the opcode fields of 0x20-0x3F, sign
extension, masking, the offset calculator. -/

namespace Sys2Proof.Machine

@[simp] theorem le16_byteOf (w : Word) : le16 (byteOf w 0) (byteOf w 1) = w := by
  apply BitVec.eq_of_getLsbD_eq
  intro i hi
  simp only [le16, byteOf, BitVec.getLsbD_append, BitVec.getLsbD_extractLsb']
  split <;> simp <;> grind

@[simp] theorem byteOf_le16_zero (lo hi : Byte) : byteOf (le16 lo hi) 0 = lo := by
  apply BitVec.eq_of_getLsbD_eq
  intro i hi
  simp only [le16, byteOf, BitVec.getLsbD_append, BitVec.getLsbD_extractLsb']
  grind

@[simp] theorem byteOf_le16_one (lo hi : Byte) : byteOf (le16 lo hi) 1 = hi := by
  apply BitVec.eq_of_getLsbD_eq
  intro i hi
  simp only [le16, byteOf, BitVec.getLsbD_append, BitVec.getLsbD_extractLsb']
  grind

@[simp] theorem le24_byteOf (d : BitVec 24) : le24 (byteOf d 0) (byteOf d 1) (byteOf d 2) = d := by
  apply BitVec.eq_of_getLsbD_eq
  intro i hi
  simp only [le24, byteOf, BitVec.getLsbD_append, BitVec.getLsbD_extractLsb']
  grind

@[simp] theorem byteOf_le24_zero (b0 b1 b2 : Byte) : byteOf (le24 b0 b1 b2) 0 = b0 := by
  apply BitVec.eq_of_getLsbD_eq
  intro i hi
  simp only [le24, byteOf, BitVec.getLsbD_append, BitVec.getLsbD_extractLsb']
  grind

@[simp] theorem byteOf_le24_one (b0 b1 b2 : Byte) : byteOf (le24 b0 b1 b2) 1 = b1 := by
  apply BitVec.eq_of_getLsbD_eq
  intro i hi
  simp only [le24, byteOf, BitVec.getLsbD_append, BitVec.getLsbD_extractLsb']
  grind

@[simp] theorem byteOf_le24_two (b0 b1 b2 : Byte) : byteOf (le24 b0 b1 b2) 2 = b2 := by
  apply BitVec.eq_of_getLsbD_eq
  intro i hi
  simp only [le24, byteOf, BitVec.getLsbD_append, BitVec.getLsbD_extractLsb']
  grind

/-- The 11-bit displacement is its three high bits and its low byte (spec/30_encoding.md R79). -/
theorem disp11_split (disp : BitVec 11) :
    ((disp.extractLsb' 8 3 : BitVec 3) ++ byteOf disp 0 : BitVec 11) = disp := by
  apply BitVec.eq_of_getLsbD_eq
  intro i hi
  simp only [byteOf, BitVec.getLsbD_append, BitVec.getLsbD_extractLsb']
  grind

/-- Masking by `2^k - 1` is reduction modulo `2^k`, also below zero (spec/40_resolution.md R113). -/
theorem maskInt_two_pow_sub_one (x : Int) (k : Nat) :
    (maskInt x (2 ^ k - 1) : Int) = x % (2 ^ k : Int) := by
  cases x with
  | ofNat a => simp [maskInt, Nat.and_two_pow_sub_one_eq_mod]
  | negSucc a =>
    have h : a % 2 ^ k < 2 ^ k := Nat.mod_lt _ (Nat.two_pow_pos k)
    have hx : (2 ^ k - 1) ^^^ (a % 2 ^ k) = 2 ^ k - 1 - a % 2 ^ k := by
      have := BitVec.toNat_not (x := BitVec.ofNat k a)
      rw [BitVec.not_def, BitVec.toNat_xor, BitVec.toNat_allOnes, BitVec.toNat_ofNat] at this
      exact this
    have hm : (2 ^ k - 1) &&& a = a % 2 ^ k := by
      rw [Nat.and_comm, Nat.and_two_pow_sub_one_eq_mod]
    simp only [maskInt]
    rw [hm, hx, Int.negSucc_emod a (by positivity)]
    have hp : ((2 ^ k : Nat) : Int) = (2 : Int) ^ k := by push_cast; rfl
    have ha : ((a % 2 ^ k : Nat) : Int) = (a : Int) % 2 ^ k := by push_cast; rfl
    rw [← ha]
    omega

end Sys2Proof.Machine
end

