-- ==== Sys2Proof/Laws/State.lean ====
section
/-! SUPPORT. One lemma per field per update, of the state and of the working value of an evaluation. -/

namespace Sys2Proof.Machine

variable (s : State) (e : Eval)

@[simp] theorem State.emit_cfg (o : Output) : (s.emit o).cfg = s.cfg := rfl
@[simp] theorem State.emit_win (o : Output) : (s.emit o).win = s.win := rfl
@[simp] theorem State.emit_avail (o : Output) : (s.emit o).avail = s.avail := rfl
@[simp] theorem State.emit_addr (o : Output) : (s.emit o).addr = s.addr := rfl
@[simp] theorem State.emit_out (o : Output) : (s.emit o).out = o := rfl

@[simp] theorem State.present_cfg (win : List Byte) (avail addr : Nat) : 
    (s.present win avail addr).cfg = s.cfg := rfl
@[simp] theorem State.present_win (win : List Byte) (avail addr : Nat) : 
    (s.present win avail addr).win = win := rfl
@[simp] theorem State.present_avail (win : List Byte) (avail addr : Nat) : 
    (s.present win avail addr).avail = avail := rfl
@[simp] theorem State.present_addr (win : List Byte) (avail addr : Nat) : 
    (s.present win avail addr).addr = addr := rfl
@[simp] theorem State.present_out (win : List Byte) (avail addr : Nat) : 
    (s.present win avail addr).out = s.out := rfl

@[simp] theorem State.raiseUnknown_cfg (first : Byte) : (s.raiseUnknown first).cfg = s.cfg := rfl
@[simp] theorem State.raiseUnknown_win (first : Byte) : (s.raiseUnknown first).win = s.win := rfl
@[simp] theorem State.raiseUnknown_avail (first : Byte) : (s.raiseUnknown first).avail = s.avail := rfl
@[simp] theorem State.raiseUnknown_addr (first : Byte) : (s.raiseUnknown first).addr = s.addr := rfl
@[simp] theorem State.raiseUnknown_out (first : Byte) : (s.raiseUnknown first).out = .unknownOpcode 1 [first] := rfl

@[simp] theorem State.raiseTruncated_cfg (need : Nat) : (s.raiseTruncated need).cfg = s.cfg := rfl
@[simp] theorem State.raiseTruncated_win (need : Nat) : (s.raiseTruncated need).win = s.win := rfl
@[simp] theorem State.raiseTruncated_avail (need : Nat) : (s.raiseTruncated need).avail = s.avail := rfl
@[simp] theorem State.raiseTruncated_addr (need : Nat) : (s.raiseTruncated need).addr = s.addr := rfl
@[simp] theorem State.raiseTruncated_out (need : Nat) : (s.raiseTruncated need).out = .truncated need := rfl

@[simp] theorem State.emit_emit (o o' : Output) : (s.emit o).emit o' = s.emit o' := rfl
@[simp] theorem State.emit_window (o : Output) : (s.emit o).window = s.window := rfl
@[simp] theorem State.emit_portsFit (o : Output) : (s.emit o).portsFit = s.portsFit := rfl

@[simp] theorem Eval.operand_opcode (name : String) (v : OperandVal) : 
    (e.operand name v).record.opcode = e.record.opcode := rfl
@[simp] theorem Eval.operand_address (name : String) (v : OperandVal) : 
    (e.operand name v).record.address = e.record.address := rfl
@[simp] theorem Eval.operand_signed (name : String) (v : OperandVal) : 
    (e.operand name v).record.signed = e.record.signed := rfl
@[simp] theorem Eval.operand_mnemonic (name : String) (v : OperandVal) : 
    (e.operand name v).record.mnemonic = e.record.mnemonic := rfl
@[simp] theorem Eval.operand_mode (name : String) (v : OperandVal) : 
    (e.operand name v).record.mode = e.record.mode := rfl
@[simp] theorem Eval.operand_byteLength (name : String) (v : OperandVal) : 
    (e.operand name v).record.byteLength = e.record.byteLength := rfl
@[simp] theorem Eval.operand_operandCount (name : String) (v : OperandVal) : 
    (e.operand name v).record.operandCount = e.record.operandCount := rfl
@[simp] theorem Eval.operand_varTypes (name : String) (v : OperandVal) : 
    (e.operand name v).record.varTypes = e.record.varTypes := rfl
@[simp] theorem Eval.operand_varNames (name : String) (v : OperandVal) : 
    (e.operand name v).record.varNames = e.record.varNames := rfl
@[simp] theorem Eval.operand_operands (name : String) (v : OperandVal) : 
    (e.operand name v).record.operands = e.record.operands ++ [⟨name, v⟩] := rfl
@[simp] theorem Eval.operand_raw (name : String) (v : OperandVal) : 
    (e.operand name v).record.raw = e.record.raw := rfl
@[simp] theorem Eval.operand_rawOps (name : String) (v : OperandVal) : 
    (e.operand name v).record.rawOps = e.record.rawOps := rfl
@[simp] theorem Eval.operand_variableLength (name : String) (v : OperandVal) : 
    (e.operand name v).record.variableLength = e.record.variableLength := rfl
@[simp] theorem Eval.operand_autoIncrement (name : String) (v : OperandVal) : 
    (e.operand name v).record.autoIncrement = e.record.autoIncrement := rfl
@[simp] theorem Eval.operand_signedFlag (name : String) (v : OperandVal) : 
    (e.operand name v).record.signedFlag = e.record.signedFlag := rfl
@[simp] theorem Eval.operand_ignore (name : String) (v : OperandVal) : 
    (e.operand name v).record.ignore = e.record.ignore := rfl
@[simp] theorem Eval.operand_reserved (name : String) (v : OperandVal) : 
    (e.operand name v).record.reserved = e.record.reserved := rfl
@[simp] theorem Eval.operand_checked (name : String) (v : OperandVal) : 
    (e.operand name v).record.checked = e.record.checked := rfl
@[simp] theorem Eval.operand_xrefs (name : String) (v : OperandVal) : 
    (e.operand name v).record.xrefs = e.record.xrefs := rfl
@[simp] theorem Eval.operand_calls (name : String) (v : OperandVal) : 
    (e.operand name v).record.calls = e.record.calls := rfl
@[simp] theorem Eval.operand_jumps (name : String) (v : OperandVal) : 
    (e.operand name v).record.jumps = e.record.jumps := rfl
@[simp] theorem Eval.operand_description (name : String) (v : OperandVal) : 
    (e.operand name v).record.description = e.record.description := rfl
@[simp] theorem Eval.operand_seen (name : String) (v : OperandVal) : (e.operand name v).seen = e.seen := rfl

@[simp] theorem Eval.call_opcode (t : Int) : 
    (e.call t).record.opcode = e.record.opcode := rfl
@[simp] theorem Eval.call_address (t : Int) : 
    (e.call t).record.address = e.record.address := rfl
@[simp] theorem Eval.call_signed (t : Int) : 
    (e.call t).record.signed = e.record.signed := rfl
@[simp] theorem Eval.call_mnemonic (t : Int) : 
    (e.call t).record.mnemonic = e.record.mnemonic := rfl
@[simp] theorem Eval.call_mode (t : Int) : 
    (e.call t).record.mode = e.record.mode := rfl
@[simp] theorem Eval.call_byteLength (t : Int) : 
    (e.call t).record.byteLength = e.record.byteLength := rfl
@[simp] theorem Eval.call_operandCount (t : Int) : 
    (e.call t).record.operandCount = e.record.operandCount := rfl
@[simp] theorem Eval.call_varTypes (t : Int) : 
    (e.call t).record.varTypes = e.record.varTypes := rfl
@[simp] theorem Eval.call_varNames (t : Int) : 
    (e.call t).record.varNames = e.record.varNames := rfl
@[simp] theorem Eval.call_operands (t : Int) : 
    (e.call t).record.operands = e.record.operands := rfl
@[simp] theorem Eval.call_raw (t : Int) : 
    (e.call t).record.raw = e.record.raw := rfl
@[simp] theorem Eval.call_rawOps (t : Int) : 
    (e.call t).record.rawOps = e.record.rawOps := rfl
@[simp] theorem Eval.call_variableLength (t : Int) : 
    (e.call t).record.variableLength = e.record.variableLength := rfl
@[simp] theorem Eval.call_autoIncrement (t : Int) : 
    (e.call t).record.autoIncrement = e.record.autoIncrement := rfl
@[simp] theorem Eval.call_signedFlag (t : Int) : 
    (e.call t).record.signedFlag = e.record.signedFlag := rfl
@[simp] theorem Eval.call_ignore (t : Int) : 
    (e.call t).record.ignore = e.record.ignore := rfl
@[simp] theorem Eval.call_reserved (t : Int) : 
    (e.call t).record.reserved = e.record.reserved := rfl
@[simp] theorem Eval.call_checked (t : Int) : 
    (e.call t).record.checked = e.record.checked := rfl
@[simp] theorem Eval.call_xrefs (t : Int) : 
    (e.call t).record.xrefs = e.record.xrefs := rfl
@[simp] theorem Eval.call_calls (t : Int) : 
    (e.call t).record.calls = e.record.calls ++ [e.edge t] := rfl
@[simp] theorem Eval.call_jumps (t : Int) : 
    (e.call t).record.jumps = e.record.jumps := rfl
@[simp] theorem Eval.call_description (t : Int) : 
    (e.call t).record.description = e.record.description := rfl
@[simp] theorem Eval.call_seen (t : Int) : (e.call t).seen = e.seen := rfl

@[simp] theorem Eval.jump_opcode (t : Int) : 
    (e.jump t).record.opcode = e.record.opcode := rfl
@[simp] theorem Eval.jump_address (t : Int) : 
    (e.jump t).record.address = e.record.address := rfl
@[simp] theorem Eval.jump_signed (t : Int) : 
    (e.jump t).record.signed = e.record.signed := rfl
@[simp] theorem Eval.jump_mnemonic (t : Int) : 
    (e.jump t).record.mnemonic = e.record.mnemonic := rfl
@[simp] theorem Eval.jump_mode (t : Int) : 
    (e.jump t).record.mode = e.record.mode := rfl
@[simp] theorem Eval.jump_byteLength (t : Int) : 
    (e.jump t).record.byteLength = e.record.byteLength := rfl
@[simp] theorem Eval.jump_operandCount (t : Int) : 
    (e.jump t).record.operandCount = e.record.operandCount := rfl
@[simp] theorem Eval.jump_varTypes (t : Int) : 
    (e.jump t).record.varTypes = e.record.varTypes := rfl
@[simp] theorem Eval.jump_varNames (t : Int) : 
    (e.jump t).record.varNames = e.record.varNames := rfl
@[simp] theorem Eval.jump_operands (t : Int) : 
    (e.jump t).record.operands = e.record.operands := rfl
@[simp] theorem Eval.jump_raw (t : Int) : 
    (e.jump t).record.raw = e.record.raw := rfl
@[simp] theorem Eval.jump_rawOps (t : Int) : 
    (e.jump t).record.rawOps = e.record.rawOps := rfl
@[simp] theorem Eval.jump_variableLength (t : Int) : 
    (e.jump t).record.variableLength = e.record.variableLength := rfl
@[simp] theorem Eval.jump_autoIncrement (t : Int) : 
    (e.jump t).record.autoIncrement = e.record.autoIncrement := rfl
@[simp] theorem Eval.jump_signedFlag (t : Int) : 
    (e.jump t).record.signedFlag = e.record.signedFlag := rfl
@[simp] theorem Eval.jump_ignore (t : Int) : 
    (e.jump t).record.ignore = e.record.ignore := rfl
@[simp] theorem Eval.jump_reserved (t : Int) : 
    (e.jump t).record.reserved = e.record.reserved := rfl
@[simp] theorem Eval.jump_checked (t : Int) : 
    (e.jump t).record.checked = e.record.checked := rfl
@[simp] theorem Eval.jump_xrefs (t : Int) : 
    (e.jump t).record.xrefs = e.record.xrefs := rfl
@[simp] theorem Eval.jump_calls (t : Int) : 
    (e.jump t).record.calls = e.record.calls := rfl
@[simp] theorem Eval.jump_jumps (t : Int) : 
    (e.jump t).record.jumps = e.record.jumps ++ [e.edge t] := rfl
@[simp] theorem Eval.jump_description (t : Int) : 
    (e.jump t).record.description = e.record.description := rfl
@[simp] theorem Eval.jump_seen (t : Int) : (e.jump t).seen = e.seen := rfl

@[simp] theorem Eval.retag_opcode (mn : String) (m : Mode) : 
    (e.retag mn m).record.opcode = e.record.opcode := rfl
@[simp] theorem Eval.retag_address (mn : String) (m : Mode) : 
    (e.retag mn m).record.address = e.record.address := rfl
@[simp] theorem Eval.retag_signed (mn : String) (m : Mode) : 
    (e.retag mn m).record.signed = e.record.signed := rfl
@[simp] theorem Eval.retag_mnemonic (mn : String) (m : Mode) : 
    (e.retag mn m).record.mnemonic = mn := rfl
@[simp] theorem Eval.retag_mode (mn : String) (m : Mode) : 
    (e.retag mn m).record.mode = m := rfl
@[simp] theorem Eval.retag_byteLength (mn : String) (m : Mode) : 
    (e.retag mn m).record.byteLength = e.record.byteLength := rfl
@[simp] theorem Eval.retag_operandCount (mn : String) (m : Mode) : 
    (e.retag mn m).record.operandCount = e.record.operandCount := rfl
@[simp] theorem Eval.retag_varTypes (mn : String) (m : Mode) : 
    (e.retag mn m).record.varTypes = e.record.varTypes := rfl
@[simp] theorem Eval.retag_varNames (mn : String) (m : Mode) : 
    (e.retag mn m).record.varNames = e.record.varNames := rfl
@[simp] theorem Eval.retag_operands (mn : String) (m : Mode) : 
    (e.retag mn m).record.operands = e.record.operands := rfl
@[simp] theorem Eval.retag_raw (mn : String) (m : Mode) : 
    (e.retag mn m).record.raw = e.record.raw := rfl
@[simp] theorem Eval.retag_rawOps (mn : String) (m : Mode) : 
    (e.retag mn m).record.rawOps = e.record.rawOps := rfl
@[simp] theorem Eval.retag_variableLength (mn : String) (m : Mode) : 
    (e.retag mn m).record.variableLength = e.record.variableLength := rfl
@[simp] theorem Eval.retag_autoIncrement (mn : String) (m : Mode) : 
    (e.retag mn m).record.autoIncrement = e.record.autoIncrement := rfl
@[simp] theorem Eval.retag_signedFlag (mn : String) (m : Mode) : 
    (e.retag mn m).record.signedFlag = e.record.signedFlag := rfl
@[simp] theorem Eval.retag_ignore (mn : String) (m : Mode) : 
    (e.retag mn m).record.ignore = e.record.ignore := rfl
@[simp] theorem Eval.retag_reserved (mn : String) (m : Mode) : 
    (e.retag mn m).record.reserved = e.record.reserved := rfl
@[simp] theorem Eval.retag_checked (mn : String) (m : Mode) : 
    (e.retag mn m).record.checked = e.record.checked := rfl
@[simp] theorem Eval.retag_xrefs (mn : String) (m : Mode) : 
    (e.retag mn m).record.xrefs = e.record.xrefs := rfl
@[simp] theorem Eval.retag_calls (mn : String) (m : Mode) : 
    (e.retag mn m).record.calls = e.record.calls := rfl
@[simp] theorem Eval.retag_jumps (mn : String) (m : Mode) : 
    (e.retag mn m).record.jumps = e.record.jumps := rfl
@[simp] theorem Eval.retag_description (mn : String) (m : Mode) : 
    (e.retag mn m).record.description = e.record.description := rfl
@[simp] theorem Eval.retag_seen (mn : String) (m : Mode) : (e.retag mn m).seen = e.seen := rfl

@[simp] theorem Eval.xref_opcode (p : Params) (v : Byte) :
    (e.xref p v).record.opcode = e.record.opcode := by
  unfold Eval.xref; split <;> rfl
@[simp] theorem Eval.xref_address (p : Params) (v : Byte) :
    (e.xref p v).record.address = e.record.address := by
  unfold Eval.xref; split <;> rfl
@[simp] theorem Eval.xref_signed (p : Params) (v : Byte) :
    (e.xref p v).record.signed = e.record.signed := by
  unfold Eval.xref; split <;> rfl
@[simp] theorem Eval.xref_mnemonic (p : Params) (v : Byte) :
    (e.xref p v).record.mnemonic = e.record.mnemonic := by
  unfold Eval.xref; split <;> rfl
@[simp] theorem Eval.xref_mode (p : Params) (v : Byte) :
    (e.xref p v).record.mode = e.record.mode := by
  unfold Eval.xref; split <;> rfl
@[simp] theorem Eval.xref_byteLength (p : Params) (v : Byte) :
    (e.xref p v).record.byteLength = e.record.byteLength := by
  unfold Eval.xref; split <;> rfl
@[simp] theorem Eval.xref_operandCount (p : Params) (v : Byte) :
    (e.xref p v).record.operandCount = e.record.operandCount := by
  unfold Eval.xref; split <;> rfl
@[simp] theorem Eval.xref_varTypes (p : Params) (v : Byte) :
    (e.xref p v).record.varTypes = e.record.varTypes := by
  unfold Eval.xref; split <;> rfl
@[simp] theorem Eval.xref_varNames (p : Params) (v : Byte) :
    (e.xref p v).record.varNames = e.record.varNames := by
  unfold Eval.xref; split <;> rfl
@[simp] theorem Eval.xref_operands (p : Params) (v : Byte) :
    (e.xref p v).record.operands = e.record.operands := by
  unfold Eval.xref; split <;> rfl
@[simp] theorem Eval.xref_raw (p : Params) (v : Byte) :
    (e.xref p v).record.raw = e.record.raw := by
  unfold Eval.xref; split <;> rfl
@[simp] theorem Eval.xref_rawOps (p : Params) (v : Byte) :
    (e.xref p v).record.rawOps = e.record.rawOps := by
  unfold Eval.xref; split <;> rfl
@[simp] theorem Eval.xref_variableLength (p : Params) (v : Byte) :
    (e.xref p v).record.variableLength = e.record.variableLength := by
  unfold Eval.xref; split <;> rfl
@[simp] theorem Eval.xref_autoIncrement (p : Params) (v : Byte) :
    (e.xref p v).record.autoIncrement = e.record.autoIncrement := by
  unfold Eval.xref; split <;> rfl
@[simp] theorem Eval.xref_signedFlag (p : Params) (v : Byte) :
    (e.xref p v).record.signedFlag = e.record.signedFlag := by
  unfold Eval.xref; split <;> rfl
@[simp] theorem Eval.xref_ignore (p : Params) (v : Byte) :
    (e.xref p v).record.ignore = e.record.ignore := by
  unfold Eval.xref; split <;> rfl
@[simp] theorem Eval.xref_reserved (p : Params) (v : Byte) :
    (e.xref p v).record.reserved = e.record.reserved := by
  unfold Eval.xref; split <;> rfl
@[simp] theorem Eval.xref_checked (p : Params) (v : Byte) :
    (e.xref p v).record.checked = e.record.checked := by
  unfold Eval.xref; split <;> rfl
@[simp] theorem Eval.xref_calls (p : Params) (v : Byte) :
    (e.xref p v).record.calls = e.record.calls := by
  unfold Eval.xref; split <;> rfl
@[simp] theorem Eval.xref_jumps (p : Params) (v : Byte) :
    (e.xref p v).record.jumps = e.record.jumps := by
  unfold Eval.xref; split <;> rfl
@[simp] theorem Eval.xref_description (p : Params) (v : Byte) :
    (e.xref p v).record.description = e.record.description := by
  unfold Eval.xref; split <;> rfl

@[simp] theorem Eval.edge_source (t : Int) : (e.edge t).source = e.record.address := rfl
@[simp] theorem Eval.edge_target (t : Int) : (e.edge t).target = t := rfl
@[simp] theorem Eval.edge_mnemonic (t : Int) : (e.edge t).mnemonic = e.record.mnemonic := rfl

end Sys2Proof.Machine
end

