-- ==== Sys2Proof/Laws/Ops.lean ====
section
/-! SUPPORT. What the shared operations can do: XREF, completion, the shared meaning of a row. -/

namespace Sys2Proof.Machine

/-- XREF either emits one cross-reference, above the threshold and new, or does nothing
(spec/40_resolution.md R121). -/
theorem Eval.xref_cases (p : Params) (v : Byte) (e : Eval) :
    (p.xrefThreshold < v.toNat ∧ v.toNat ∉ e.seen ∧
      e.xref p v = { record := { e.record with xrefs := e.record.xrefs ++ [e.edge v.toNat] },
                     seen := e.seen ++ [v.toNat] }) ∨
    ((v.toNat ≤ p.xrefThreshold ∨ v.toNat ∈ e.seen) ∧ e.xref p v = e) := by
  by_cases h : p.xrefThreshold < v.toNat ∧ v.toNat ∉ e.seen
  · exact .inl ⟨h.1, h.2, by simp [Eval.xref, h]⟩
  · refine .inr ⟨?_, by simp only [Eval.xref, h, if_false]⟩
    by_cases h1 : p.xrefThreshold < v.toNat
    · exact .inr (by by_contra h2; exact h ⟨h1, h2⟩)
    · exact .inl (by omega)

/-- A template without operands: Checked, and nothing else (spec/30_encoding.md R87). -/
theorem decodeRecord_inherent (p : Params) (addr : Nat) (f : Fetched) (res : Resolver)
    (h : f.t.ops = []) :
    decodeRecord p addr f res = { initRecord addr f with checked := true } := by
  simp [decodeRecord, h]

/-- A handled resolver: its record, Checked (spec/40_resolution.md R149). -/
theorem decodeRecord_handled (p : Params) (addr : Nat) (f : Fetched) (res : Resolver) (e : Eval)
    (h : f.t.ops ≠ []) (hr : res p f ⟨initRecord addr f, []⟩ = some e) :
    decodeRecord p addr f res = { e.record with checked := true } := by
  simp [decodeRecord, completeRecord, h, hr]

/-- An unhandled resolver: the initial record, not Checked, no operand, no edge
(spec/40_resolution.md R149). -/
theorem decodeRecord_unhandled (p : Params) (addr : Nat) (f : Fetched) (res : Resolver)
    (h : f.t.ops ≠ []) (hr : res p f ⟨initRecord addr f, []⟩ = none) :
    decodeRecord p addr f res = initRecord addr f := by
  simp [decodeRecord, completeRecord, h, hr]

/-- Everything a row's meaning does: a next state that differs in the output port alone. -/
theorem runRow_eq (s : State) (t : Template) (signed : Bool) (opcode : Byte) (ops : List Byte)
    (res : Resolver) :
    runRow s t signed opcode ops res = .next { s with
      out := .ok (decodeRecord s.cfg s.addr (Fetched.ofRow s.cfg t signed opcode ops) res) } := rfl

/-- The operand bytes of a row's bytes are those it was made of (spec/30_encoding.md R85). -/
@[simp] theorem Fetched.ofRow_ops (p : Params) (t : Template) (signed : Bool) (opcode : Byte)
    (ops : List Byte) : (Fetched.ofRow p t signed opcode ops).ops = ops := by
  cases signed <;> rfl

@[simp] theorem Fetched.ofRow_t (p : Params) (t : Template) (signed : Bool) (opcode : Byte)
    (ops : List Byte) : (Fetched.ofRow p t signed opcode ops).t = t := rfl
@[simp] theorem Fetched.ofRow_signed (p : Params) (t : Template) (signed : Bool) (opcode : Byte)
    (ops : List Byte) : (Fetched.ofRow p t signed opcode ops).signed = signed := rfl
@[simp] theorem Fetched.ofRow_opcode (p : Params) (t : Template) (signed : Bool) (opcode : Byte)
    (ops : List Byte) : (Fetched.ofRow p t signed opcode ops).opcode = opcode := rfl
@[simp] theorem Fetched.ofRow_raw (p : Params) (t : Template) (signed : Bool) (opcode : Byte)
    (ops : List Byte) :
    (Fetched.ofRow p t signed opcode ops).raw = rowBytes p signed opcode ops := rfl

end Sys2Proof.Machine
end

