-- ==== Sys2Proof/Laws/Decode.lean ====
section
/-! SUPPORT. What classification, decoding and a step can do, each said once: one inversion lemma per
function, and for every row the opcode and operand bytes it was built from. -/

namespace Sys2Proof.Machine

variable {p : Params} {first opcode : Byte} {signed : Bool} {bytes ops : List Byte} {f : Fetched}
  {i : Instr} {k : Nat} {b : Byte}

/-! ## Classification -/

/-- The four ways a window is classified: T0, T1, signed, unsigned (spec/30_encoding.md R72,
spec/60_exceptions.md R382). -/
theorem classify_cases (p : Params) (bytes : List Byte) :
    (bytes = [] ∧ classify p bytes = .truncated 1) ∨
    (bytes = [p.signedPrefix] ∧ classify p bytes = .truncated 2) ∨
    (∃ b1 rest, bytes = p.signedPrefix :: b1 :: rest ∧
      classify p bytes = classifyAt p p.signedPrefix true b1 bytes) ∨
    (∃ b0 rest, b0 ≠ p.signedPrefix ∧ bytes = b0 :: rest ∧
      classify p bytes = classifyAt p b0 false b0 bytes) := by
  match bytes with
  | [] => exact .inl ⟨rfl, rfl⟩
  | b0 :: rest =>
    by_cases h : b0 = p.signedPrefix
    · match rest with
      | [] => exact .inr (.inl ⟨by rw [h], by simp [classify, h]⟩)
      | b1 :: rest => exact .inr (.inr (.inl ⟨b1, rest, by rw [h], by simp [classify, h]⟩))
    · exact .inr (.inr (.inr ⟨b0, rest, h, rfl, by simp [classify, h]⟩))

/-- A whole instruction: its template, the mode byte there where it is needed, enough bytes, sliced
at the final length (spec/60_exceptions.md R383). -/
theorem classifyAt_fetched (h : classifyAt p first signed opcode bytes = .fetched f) :
    lookupTemplate p signed opcode = some f.t ∧
      ¬ (needsModeByte f.t = true ∧ bytes.length ≤ modeByteIndex p signed) ∧
      finalLength f.t signed (modeBitOf p f.t signed bytes) ≤ bytes.length ∧
      f = { t := f.t, signed, opcode, modeBit := modeBitOf p f.t signed bytes,
            raw := bytes.take (finalLength f.t signed (modeBitOf p f.t signed bytes)) } := by
  unfold classifyAt at h
  split at h
  · cases h
  · split at h
    · cases h
    · rename_i t ht hn
      dsimp only at h
      split at h
      · cases h
      · cases h
        exact ⟨ht, by simpa using hn, Nat.not_lt.mp ‹_›, rfl⟩

/-- Truncated after a template was found: by T2 or by T3 (spec/60_exceptions.md R382). -/
theorem classifyAt_truncated (h : classifyAt p first signed opcode bytes = .truncated k) :
    ∃ t, lookupTemplate p signed opcode = some t ∧
      ((needsModeByte t = true ∧ bytes.length ≤ modeByteIndex p signed ∧
          k = modeByteIndex p signed + 1) ∨
        (¬ (needsModeByte t = true ∧ bytes.length ≤ modeByteIndex p signed) ∧ bytes.length < k ∧
          k = finalLength t signed (modeBitOf p t signed bytes))) := by
  unfold classifyAt at h
  split at h
  · cases h
  · split at h
    · rename_i t ht hn
      cases h
      simp only [Bool.and_eq_true, decide_eq_true_eq] at hn
      exact ⟨t, ht, .inl ⟨hn.1, hn.2, rfl⟩⟩
    · rename_i t ht hn
      dsimp only at h
      split at h
      · rename_i hl
        cases h
        exact ⟨t, ht, .inr ⟨by simpa using hn, hl, rfl⟩⟩
      · cases h

/-- Unknown: no template, and the first byte of the window (spec/60_exceptions.md R380). -/
theorem classifyAt_unknown (h : classifyAt p first signed opcode bytes = .unknown b) :
    lookupTemplate p signed opcode = none ∧ b = first := by
  unfold classifyAt at h
  split at h
  · cases h
    exact ⟨‹_›, rfl⟩
  · split at h
    · cases h
    · dsimp only at h
      split at h <;> cases h

/-! ## Layouts -/

variable {l : List Byte}

theorem ops0_some {j : Instr} (h : ops0 j l = some i) : l = [] ∧ i = j := by
  unfold ops0 at h
  split at h
  · cases h; exact ⟨rfl, rfl⟩
  · cases h

theorem ops1_some {mk} (h : ops1 mk l = some i) : ∃ a, l = [a] ∧ i = mk a := by
  unfold ops1 at h
  split at h
  · cases h; exact ⟨_, rfl, rfl⟩
  · cases h

theorem ops2_some {mk} (h : ops2 mk l = some i) : ∃ d1 d0, l = [d1, d0] ∧ i = mk d0 d1 := by
  unfold ops2 at h
  split at h
  · cases h; exact ⟨_, _, rfl, rfl⟩
  · cases h

theorem ops3_some {mk} (h : ops3 mk l = some i) :
    ∃ d2 d1 d0, l = [d2, d1, d0] ∧ i = mk d0 d1 d2 := by
  unfold ops3 at h
  split at h
  · cases h; exact ⟨_, _, _, rfl, rfl⟩
  · cases h

theorem immW1_some {mk} (h : immW1 mk l = some i) :
    ∃ w : Word, l = [byteOf w 0, byteOf w 1] ∧ i = mk w := by
  unfold immW1 at h
  split at h
  · cases h; exact ⟨_, by simp, rfl⟩
  · cases h

theorem immW2_some {mk} (h : immW2 mk l = some i) :
    ∃ (w : Word) (d0 : Byte), l = [byteOf w 0, byteOf w 1, d0] ∧ i = mk d0 w := by
  unfold immW2 at h
  split at h
  · cases h; exact ⟨_, _, by simp, rfl⟩
  · cases h

theorem immW3_some {mk} (h : immW3 mk l = some i) :
    ∃ (w : Word) (d1 d0 : Byte), l = [byteOf w 0, byteOf w 1, d1, d0] ∧ i = mk d0 d1 w := by
  unfold immW3 at h
  split at h
  · cases h; exact ⟨_, _, _, by simp, rfl⟩
  · cases h

theorem idx1_some {mk} (h : idx1 mk l = some i) :
    ∃ base off, l = base :: offsetBytes off ∧ i = mk base off := by
  unfold idx1 at h
  split at h
  · cases h; exact ⟨_, _, rfl, rfl⟩
  · cases h; exact ⟨_, _, by simp [offsetBytes], rfl⟩
  · cases h

theorem idx2_some {mk} (h : idx2 mk l = some i) :
    ∃ base off d0, l = base :: offsetBytes off ++ [d0] ∧ i = mk d0 base off := by
  unfold idx2 at h
  split at h
  · cases h; exact ⟨_, _, _, rfl, rfl⟩
  · cases h; exact ⟨_, _, _, by simp [offsetBytes], rfl⟩
  · cases h

theorem idx3_some {mk} (h : idx3 mk l = some i) :
    ∃ base off d1 d0, l = base :: offsetBytes off ++ [d1, d0] ∧ i = mk d0 d1 base off := by
  unfold idx3 at h
  split at h
  · cases h; exact ⟨_, _, _, _, rfl, rfl⟩
  · cases h; exact ⟨_, _, _, _, by simp [offsetBytes], rfl⟩
  · cases h

theorem eidx_some {mk} (h : eidx mk l = some i) : ∃ (ptr d0 : Byte) (disp : BitVec 24),
    l = [ptr, byteOf disp 0, byteOf disp 1, byteOf disp 2, d0] ∧ i = mk d0 ptr disp := by
  unfold eidx at h
  split at h
  · cases h; exact ⟨_, _, _, by simp, rfl⟩
  · cases h

theorem disp24_some {mk} (h : disp24 mk l = some i) : ∃ disp : BitVec 24,
    l = [byteOf disp 0, byteOf disp 1, byteOf disp 2] ∧ i = mk disp := by
  unfold disp24 at h
  split at h
  · cases h; exact ⟨_, by simp, rfl⟩
  · cases h

theorem disp11_some {mk} (h : disp11 mk opcode l = some i) :
    ∃ lo, l = [lo] ∧ i = mk (opcode.extractLsb' 0 3 ++ lo) := by
  unfold disp11 at h
  split at h
  · cases h; exact ⟨_, rfl, rfl⟩
  · cases h

theorem bitTest_some {mk} (h : bitTest mk opcode l = some i) :
    ∃ reg disp, l = [reg, disp] ∧ i = mk (opcode.extractLsb' 0 3) reg disp := by
  unfold bitTest at h
  split at h
  · cases h; exact ⟨_, _, rfl, rfl⟩
  · cases h

theorem regDisp_some {mk} (h : regDisp mk l = some i) :
    ∃ reg disp, l = [reg, disp] ∧ i = mk reg disp := by
  unfold regDisp at h
  split at h
  · cases h; exact ⟨_, _, rfl, rfl⟩
  · cases h

/-! ## The row an instruction was built from

The opcode and the operand bytes that `buildInstr` reads are those of the instruction it answers
(spec/30_encoding.md R77-R79, R93): the other direction of the family `Encodes`. -/

/-- The instruction's row is in this table at this opcode, and these are its operand bytes. -/
def BuiltFrom (signed : Bool) (opcode : Byte) (ops : List Byte) (i : Instr) : Prop :=
  (instrRow i).signed = signed ∧ (instrRow i).opcode = opcode ∧ operandBytes i = ops

theorem buildRow0_some {lo : Nat} (h : buildRow0 lo ops = some i) :
    BuiltFrom false (BitVec.ofNat 8 (0x00 + lo)) ops i := by
  unfold buildRow0 at h
  split at h <;> first
    | obtain ⟨a, rfl, rfl⟩ := ops1_some h; exact ⟨rfl, rfl, rfl⟩
    | obtain ⟨a, b, rfl, rfl⟩ := ops2_some h; exact ⟨rfl, rfl, rfl⟩
    | obtain ⟨a, o, b, rfl, rfl⟩ := idx2_some h; exact ⟨rfl, rfl, rfl⟩
    | cases h

theorem buildRow1_some {lo : Nat} (h : buildRow1 lo ops = some i) :
    BuiltFrom false (BitVec.ofNat 8 (0x10 + lo)) ops i := by
  unfold buildRow1 at h
  split at h <;> first
    | obtain ⟨a, rfl, rfl⟩ := ops1_some h; exact ⟨rfl, rfl, rfl⟩
    | obtain ⟨a, b, rfl, rfl⟩ := ops2_some h; exact ⟨rfl, rfl, rfl⟩
    | obtain ⟨a, o, b, rfl, rfl⟩ := idx2_some h; exact ⟨rfl, rfl, rfl⟩
    | obtain ⟨a, b, d, rfl, rfl⟩ := eidx_some h; exact ⟨rfl, rfl, rfl⟩
    | cases h

theorem buildRow4_some {lo : Nat} (h : buildRow4 lo ops = some i) :
    BuiltFrom false (BitVec.ofNat 8 (0x40 + lo)) ops i := by
  unfold buildRow4 at h
  split at h <;> first
    | obtain ⟨a, b, c, rfl, rfl⟩ := ops3_some h; exact ⟨rfl, rfl, rfl⟩
    | obtain ⟨w, a, b, rfl, rfl⟩ := immW3_some h; exact ⟨rfl, rfl, rfl⟩
    | obtain ⟨a, o, b, c, rfl, rfl⟩ := idx3_some h; exact ⟨rfl, rfl, rfl⟩
    | cases h

theorem buildRow5_some {lo : Nat} (h : buildRow5 lo ops = some i) :
    BuiltFrom false (BitVec.ofNat 8 (0x50 + lo)) ops i := by
  unfold buildRow5 at h
  split at h <;> first
    | obtain ⟨a, b, c, rfl, rfl⟩ := ops3_some h; exact ⟨rfl, rfl, rfl⟩
    | obtain ⟨a, o, b, c, rfl, rfl⟩ := idx3_some h; exact ⟨rfl, rfl, rfl⟩
    | cases h

theorem buildRow6_some {lo : Nat} (h : buildRow6 lo ops = some i) :
    BuiltFrom false (BitVec.ofNat 8 (0x60 + lo)) ops i := by
  unfold buildRow6 at h
  split at h <;> first
    | obtain ⟨a, b, rfl, rfl⟩ := ops2_some h; exact ⟨rfl, rfl, rfl⟩
    | obtain ⟨w, a, rfl, rfl⟩ := immW2_some h; exact ⟨rfl, rfl, rfl⟩
    | obtain ⟨a, o, b, rfl, rfl⟩ := idx2_some h; exact ⟨rfl, rfl, rfl⟩
    | cases h

theorem buildRow7_some {lo : Nat} (h : buildRow7 lo ops = some i) :
    BuiltFrom false (BitVec.ofNat 8 (0x70 + lo)) ops i := by
  unfold buildRow7 at h
  split at h <;> first
    | obtain ⟨a, b, rfl, rfl⟩ := ops2_some h; exact ⟨rfl, rfl, rfl⟩
    | obtain ⟨a, o, b, rfl, rfl⟩ := idx2_some h; exact ⟨rfl, rfl, rfl⟩
    | cases h

theorem buildRow8_some {lo : Nat} (h : buildRow8 lo ops = some i) :
    BuiltFrom false (BitVec.ofNat 8 (0x80 + lo)) ops i := by
  unfold buildRow8 at h
  split at h <;> first
    | obtain ⟨a, b, rfl, rfl⟩ := ops2_some h; exact ⟨rfl, rfl, rfl⟩
    | obtain ⟨w, a, rfl, rfl⟩ := immW2_some h; exact ⟨rfl, rfl, rfl⟩
    | obtain ⟨a, o, b, rfl, rfl⟩ := idx2_some h; exact ⟨rfl, rfl, rfl⟩
    | cases h

theorem buildRow9_some {lo : Nat} (h : buildRow9 lo ops = some i) :
    BuiltFrom false (BitVec.ofNat 8 (0x90 + lo)) ops i := by
  unfold buildRow9 at h
  split at h <;> first
    | obtain ⟨a, b, rfl, rfl⟩ := ops2_some h; exact ⟨rfl, rfl, rfl⟩
    | obtain ⟨a, o, b, rfl, rfl⟩ := idx2_some h; exact ⟨rfl, rfl, rfl⟩
    | cases h

theorem buildRowA_some {lo : Nat} (h : buildRowA lo ops = some i) :
    BuiltFrom false (BitVec.ofNat 8 (0xA0 + lo)) ops i := by
  unfold buildRowA at h
  split at h <;> first
    | obtain ⟨a, b, rfl, rfl⟩ := ops2_some h; exact ⟨rfl, rfl, rfl⟩
    | obtain ⟨w, a, rfl, rfl⟩ := immW2_some h; exact ⟨rfl, rfl, rfl⟩
    | obtain ⟨a, o, b, rfl, rfl⟩ := idx2_some h; exact ⟨rfl, rfl, rfl⟩
    | cases h

theorem buildRowB_some {lo : Nat} (h : buildRowB lo ops = some i) :
    BuiltFrom false (BitVec.ofNat 8 (0xB0 + lo)) ops i := by
  unfold buildRowB at h
  split at h <;> first
    | obtain ⟨a, b, rfl, rfl⟩ := ops2_some h; exact ⟨rfl, rfl, rfl⟩
    | obtain ⟨a, o, b, rfl, rfl⟩ := idx2_some h; exact ⟨rfl, rfl, rfl⟩
    | cases h

theorem buildRowC_some {lo : Nat} (h : buildRowC lo ops = some i) :
    BuiltFrom false (BitVec.ofNat 8 (0xC0 + lo)) ops i := by
  unfold buildRowC at h
  split at h <;> first
    | obtain ⟨a, rfl, rfl⟩ := ops1_some h; exact ⟨rfl, rfl, rfl⟩
    | obtain ⟨a, b, rfl, rfl⟩ := ops2_some h; exact ⟨rfl, rfl, rfl⟩
    | obtain ⟨w, rfl, rfl⟩ := immW1_some h; exact ⟨rfl, rfl, rfl⟩
    | obtain ⟨a, o, rfl, rfl⟩ := idx1_some h; exact ⟨rfl, rfl, rfl⟩
    | obtain ⟨a, o, b, rfl, rfl⟩ := idx2_some h; exact ⟨rfl, rfl, rfl⟩
    | cases h

theorem buildRowD_some {lo : Nat} (h : buildRowD lo ops = some i) :
    BuiltFrom false (BitVec.ofNat 8 (0xD0 + lo)) ops i := by
  unfold buildRowD at h
  split at h <;> first
    | obtain ⟨a, rfl, rfl⟩ := ops1_some h; exact ⟨rfl, rfl, rfl⟩
    | cases h

theorem buildRowE_some {lo : Nat} (h : buildRowE lo ops = some i) :
    BuiltFrom false (BitVec.ofNat 8 (0xE0 + lo)) ops i := by
  unfold buildRowE at h
  split at h <;> first
    | obtain ⟨rfl, rfl⟩ := ops0_some h; exact ⟨rfl, rfl, rfl⟩
    | obtain ⟨a, rfl, rfl⟩ := ops1_some h; exact ⟨rfl, rfl, rfl⟩
    | obtain ⟨a, b, rfl, rfl⟩ := ops2_some h; exact ⟨rfl, rfl, rfl⟩
    | obtain ⟨a, b, c, rfl, rfl⟩ := ops3_some h; exact ⟨rfl, rfl, rfl⟩
    | obtain ⟨w, rfl, rfl⟩ := immW1_some h; exact ⟨rfl, rfl, rfl⟩
    | obtain ⟨a, b, d, rfl, rfl⟩ := eidx_some h; exact ⟨rfl, rfl, rfl⟩
    | obtain ⟨d, rfl, rfl⟩ := disp24_some h; exact ⟨rfl, rfl, rfl⟩
    | cases h

theorem buildRowF_some {lo : Nat} (h : buildRowF lo ops = some i) :
    BuiltFrom false (BitVec.ofNat 8 (0xF0 + lo)) ops i := by
  unfold buildRowF at h
  split at h <;> first
    | obtain ⟨rfl, rfl⟩ := ops0_some h; exact ⟨rfl, rfl, rfl⟩
    | obtain ⟨a, rfl, rfl⟩ := ops1_some h; exact ⟨rfl, rfl, rfl⟩
    | obtain ⟨d, rfl, rfl⟩ := disp24_some h; exact ⟨rfl, rfl, rfl⟩
    | cases h

theorem buildSigned_some (h : buildSigned opcode ops = some i) :
    BuiltFrom true opcode ops i := by
  unfold buildSigned at h
  split at h
  all_goals first
    | obtain ⟨a, b, rfl, rfl⟩ := ops2_some h; exact ⟨rfl, BitVec.eq_of_toNat_eq (Eq.symm ‹_›), rfl⟩
    | obtain ⟨a, b, c, rfl, rfl⟩ := ops3_some h; exact ⟨rfl, BitVec.eq_of_toNat_eq (Eq.symm ‹_›), rfl⟩
    | obtain ⟨w, a, rfl, rfl⟩ := immW2_some h; exact ⟨rfl, BitVec.eq_of_toNat_eq (Eq.symm ‹_›), rfl⟩
    | obtain ⟨w, a, b, rfl, rfl⟩ := immW3_some h; exact ⟨rfl, BitVec.eq_of_toNat_eq (Eq.symm ‹_›), rfl⟩
    | obtain ⟨a, o, b, rfl, rfl⟩ := idx2_some h; exact ⟨rfl, BitVec.eq_of_toNat_eq (Eq.symm ‹_›), rfl⟩
    | obtain ⟨a, o, b, c, rfl, rfl⟩ := idx3_some h; exact ⟨rfl, BitVec.eq_of_toNat_eq (Eq.symm ‹_›), rfl⟩
    | cases h

theorem opcode_fields : ∀ o : Byte,
    o = BitVec.ofNat 8 (16 * (o.extractLsb' 4 4).toNat + (o.extractLsb' 0 4).toNat) := by decide

theorem short_opcode : ∀ o : Byte, (o.extractLsb' 4 4).toNat = 2 →
    o = (if (o.extractLsb' 0 4).toNat < 8 then 0x20 else 0x28) |||
      (o.extractLsb' 0 3).setWidth 8 := by decide

theorem bit_opcode : ∀ o : Byte, (o.extractLsb' 4 4).toNat = 3 →
    o = (if (o.extractLsb' 0 4).toNat < 8 then 0x30 else 0x38) |||
      (o.extractLsb' 0 3).setWidth 8 := by decide

theorem extract_high (h : BitVec 3) (lo : Byte) : (h ++ lo : BitVec 11).extractLsb' 8 3 = h := by
  apply BitVec.eq_of_getLsbD_eq
  intro j hj
  simp only [BitVec.getLsbD_extractLsb', BitVec.getLsbD_append]
  grind

theorem extract_low (h : BitVec 3) (lo : Byte) : byteOf (h ++ lo : BitVec 11) 0 = lo := by
  apply BitVec.eq_of_getLsbD_eq
  intro j hj
  simp only [byteOf, BitVec.getLsbD_extractLsb', BitVec.getLsbD_append]
  grind

theorem buildRow2_some (hh : (opcode.extractLsb' 4 4).toNat = 2)
    (h : buildRow2 (opcode.extractLsb' 0 4).toNat opcode ops = some i) :
    BuiltFrom false opcode ops i := by
  have ho := short_opcode opcode hh
  unfold buildRow2 at h
  split at h
  case h_17 => cases h
  all_goals
    rename_i hl
    rw [hl] at ho
    obtain ⟨lo, rfl, rfl⟩ := disp11_some h
    refine ⟨rfl, ?_, by simp [operandBytes, extract_low]⟩
    change _ ||| BitVec.setWidth 8 (BitVec.extractLsb' 8 3 _) = opcode
    rw [extract_high]
    exact ho.symm

theorem buildRow3_some (hh : (opcode.extractLsb' 4 4).toNat = 3)
    (h : buildRow3 (opcode.extractLsb' 0 4).toNat opcode ops = some i) :
    BuiltFrom false opcode ops i := by
  have ho := bit_opcode opcode hh
  unfold buildRow3 at h
  split at h
  case h_17 => cases h
  all_goals
    rename_i hl
    rw [hl] at ho
    obtain ⟨reg, disp, rfl, rfl⟩ := bitTest_some h
    refine ⟨rfl, ?_, rfl⟩
    exact ho.symm

theorem buildInstr_some (h : buildInstr signed opcode ops = some i) :
    BuiltFrom signed opcode ops i := by
  unfold buildInstr at h
  split at h
  · rename_i hs
    exact hs ▸ buildSigned_some h
  · rename_i hs
    obtain rfl : signed = false := by simpa using hs
    have e := opcode_fields opcode
    unfold buildUnsigned at h
    dsimp only at h
    split at h
    case h_17 => cases h
    all_goals rename_i hh
    · rw [hh] at e; rw [e]; exact buildRow0_some h
    · rw [hh] at e; rw [e]; exact buildRow1_some h
    · exact buildRow2_some hh h
    · exact buildRow3_some hh h
    · rw [hh] at e; rw [e]; exact buildRow4_some h
    · rw [hh] at e; rw [e]; exact buildRow5_some h
    · rw [hh] at e; rw [e]; exact buildRow6_some h
    · rw [hh] at e; rw [e]; exact buildRow7_some h
    · rw [hh] at e; rw [e]; exact buildRow8_some h
    · rw [hh] at e; rw [e]; exact buildRow9_some h
    · rw [hh] at e; rw [e]; exact buildRowA_some h
    · rw [hh] at e; rw [e]; exact buildRowB_some h
    · rw [hh] at e; rw [e]; exact buildRowC_some h
    · rw [hh] at e; rw [e]; exact buildRowD_some h
    · rw [hh] at e; rw [e]; exact buildRowE_some h
    · rw [hh] at e; rw [e]; exact buildRowF_some h

/-! ## Decoding -/

/-- An instruction decoded: classified, with the template of its own row. -/
theorem decode_instr (h : decode p bytes = .instr i) : ∃ f, classify p bytes = .fetched f ∧
    buildInstr f.signed f.opcode f.ops = some i ∧ (instrRow i).t = f.t := by
  unfold decode at h
  split at h
  · cases h
  · cases h
  · rename_i f hf
    split at h
    · rename_i j hj
      cases h
      unfold rowInstr at hj
      split at hj
      · rename_i j' hb
        split at hj
        · cases hj; exact ⟨f, hf, hb, ‹_›⟩
        · cases hj
      · cases hj
    · cases h

theorem decode_truncated (h : decode p bytes = .truncated k) : classify p bytes = .truncated k := by
  unfold decode at h
  split at h
  · cases h; assumption
  · cases h
  · split at h <;> cases h

theorem decode_unknown (h : decode p bytes = .unknown b) : classify p bytes = .unknown b := by
  unfold decode at h
  split at h
  · cases h
  · cases h; assumption
  · split at h <;> cases h

theorem decode_foreign (h : decode p bytes = .foreign f) : classify p bytes = .fetched f := by
  unfold decode at h
  split at h
  · cases h
  · cases h
  · split at h
    · cases h
    · cases h; assumption

/-! ## Executing -/

/-- Every instruction's meaning puts a record on the output port and does nothing else
(spec/60_exceptions.md R386). -/
theorem exec_emits (i : Instr) (s : State) : ∃ r, exec i s = .next (s.emit (.ok r)) := by
  cases i <;> exact ⟨_, rfl⟩

end Sys2Proof.Machine
end

