-- ==== Sys2Proof/Machine/Display.lean ====
section
/-! DEFINITION. The display form (spec/40_resolution.md R140-R148) and the register-name service
REGNAME it goes through (R150): informative, a function of a record outside the decode; nothing in
the decode depends on it. -/

namespace Sys2Proof.Machine

/-! ## Plain `printf` formatting -/

/-- The decimal number that a list of characters begins with, after `acc`, and what follows it. -/
def scanWidth : List Char → Nat → Nat × List Char
  | [], acc      => (acc, [])
  | c :: cs, acc => if c.isDigit then scanWidth cs (10 * acc + (c.toNat - 48)) else (acc, c :: cs)

/-- A formatted number, at least `width` characters: zeros after the sign, or spaces before it. A
negative value is a minus sign and the magnitude (assumption log, entry 9); no display string asks
for one. -/
def padNumber (zeros : Bool) (width : Nat) (negative : Bool) (digits : List Char) : List Char :=
  let sign := if negative then ['-'] else []
  let fill := width - (sign.length + digits.length)
  if zeros then sign ++ List.replicate fill '0' ++ digits
  else List.replicate fill ' ' ++ sign ++ digits

/-- The one numeric placeholder of a template, after its `%`: an optional `0`, a width, and `X`, `x`
or `d`; the text after it is literal (spec/40_resolution.md R140, R150). Anything else is no
placeholder and stays as it stands. -/
def formatPlaceholder (value : Int) (chars : List Char) : List Char :=
  let zeros := chars.head? == some '0'
  let number := padNumber zeros (scanWidth chars 0).1 (value < 0)
  match (scanWidth chars 0).2 with
  | 'X' :: rest => number ((Nat.toDigits 16 value.natAbs).map Char.toUpper) ++ rest
  | 'x' :: rest => number (Nat.toDigits 16 value.natAbs) ++ rest
  | 'd' :: rest => number (Nat.toDigits 10 value.natAbs) ++ rest
  | _           => '%' :: chars

/-- The text before the placeholder, the number, the text after it. -/
def formatChars (value : Int) : List Char → List Char
  | []        => []
  | '%' :: cs => formatPlaceholder value cs
  | c :: cs   => c :: formatChars value cs

/-- `printf(template, value)` for a template with one numeric placeholder
(spec/40_resolution.md R140, R150). -/
def printf (template : String) (value : Int) : String :=
  String.ofList (formatChars value template.toList)

/-! ## The register-name service -/

/-- `REGNAME(template, value)`: the service's symbolic name for this template and value, or the
plain formatting (spec/00_scope.md R8, spec/40_resolution.md R150). -/
def regName (p : Params) (template : String) (value : Int) : String :=
  match p.regNames.find? (fun r => r.template == template && r.value == value) with
  | some r => r.text
  | none   => printf template value

/-! ## Display strings -/

/-- An edge's formatted string: its target under a template of the caller's, which is no part of the
decoder (spec/40_resolution.md R151; assumption log, entry 15). -/
def Edge.format (template : String) (e : Edge) : String := printf template e.target

/-- The display string of an operand's value (spec/40_resolution.md R141-R147). The string of every
tag but BITNO goes through REGNAME (R140, R150); an offset or displacement inside the brackets is
plain formatting, as R144 writes it (assumption log, entry 13). -/
def OperandVal.display (p : Params) : OperandVal → String
  | .reg r         => regName p "R_%02X" r.toNat
  | .imm8 v        => regName p "#0x%02X" v.toNat
  | .imm16 v       => regName p "#0x%04X" v.toNat
  | .ind r         => regName p "[R_%02X" r.toNat ++ "]"
  | .indInc r      => regName p "[R_%02X" r.toNat ++ "]+"
  | .sidx base off => regName p "[R_%02X" base.toNat ++ printf "+0x%02X" off.toNat ++ "]"
  | .lidx base off => regName p "[R_%02X" base.toNat ++ printf "+0x%04X" off.toNat ++ "]"
  | .eind r        => regName p "[R_%02X" r.toNat ++ "]"
  | .eidx ptr disp => regName p "[R_%02X" ptr.toNat ++ printf "+0x%06X" disp.toNat ++ "]"
  | .cadd target   =>
    if target < 0 then regName p "-0x%04X" (-target) else regName p "0x%04X" target
  | .xcadd target  => regName p "0x%06X" target
  | .bitno b       => printf "%d" b.toNat

/-- The display line: the mnemonic, then the operand strings in declared order, separated by `, `
(spec/40_resolution.md R148). DESIGN CHOICE: one space stands between the mnemonic and the first
operand string, which the rule leaves open; without operands there is no such space
(assumption log, entry 18). -/
def Record.displayLine (p : Params) (r : Record) : String :=
  match r.operands with
  | [] => r.mnemonic
  | os => r.mnemonic ++ " " ++ String.intercalate ", " (os.map fun o => o.value.display p)

end Sys2Proof.Machine
end

