-- ==== Sys2Proof/Laws/Display.lean ====
section
/-! SUPPORT. What the register-name service can answer (spec/40_resolution.md R150). -/

namespace Sys2Proof.Machine

/-- The service answers the text of one of its substitutions for this template and value, or the
plain formatting when it has none. -/
theorem regName_cases (p : Params) (template : String) (value : Int) :
    (∃ r ∈ p.regNames, r.template = template ∧ r.value = value ∧
      regName p template value = r.text) ∨
    ((∀ r ∈ p.regNames, ¬ (r.template = template ∧ r.value = value)) ∧
      regName p template value = printf template value) := by
  unfold regName
  split
  · rename_i r hr
    have h := List.find?_some hr
    simp only [Bool.and_eq_true, beq_iff_eq] at h
    exact .inl ⟨r, List.mem_of_find?_eq_some hr, h.1, h.2, rfl⟩
  · rename_i hr
    exact .inr ⟨fun r hm => by simpa using List.find?_eq_none.mp hr r hm, rfl⟩

/-- Without substitutions the service is plain formatting (spec/00_scope.md R8). -/
theorem regName_plain {p : Params} (h : p.regNames = []) (template : String) (value : Int) :
    regName p template value = printf template value := by
  simp [regName, h]

end Sys2Proof.Machine
end

