-- ==== Sys2Proof/Laws/Operands.lean ====
section
/-! SUPPORT. What each resolver can do: if it is handled, its length precondition held and the
evaluation is the one its rule gives. -/

namespace Sys2Proof.Machine

variable {p : Params} {f : Fetched} {e e' : Eval}

theorem resolveDirect_some (h : resolveDirect p f e = some e') :
    f.L = f.n ∧ e' = plain p f.n f e := by
  unfold resolveDirect at h
  split at h
  · exact ⟨‹_›, (Option.some.inj h).symm⟩
  · cases h

theorem resolveImmediate_some (h : resolveImmediate p f e = some e') :
    (f.L = f.n ∧ e' = plainThen (.imm8 (f.op 0)) p f e) ∨
    (f.L = f.n + 1 ∧ e' = plainThen (.imm16 (le16 (f.op 0) (f.op 1))) p f e) := by
  unfold resolveImmediate at h
  split at h
  · exact .inl ⟨‹_›, (Option.some.inj h).symm⟩
  · split at h
    · exact .inr ⟨‹_›, (Option.some.inj h).symm⟩
    · cases h

theorem resolveIndirect_some (h : resolveIndirect p f e = some e') :
    f.L = f.n ∧ e' = plainThen (if e.record.mode = .indirectInc then .indInc (f.op 0 &&& p.indPtrMask)
      else .ind (f.op 0 &&& p.indPtrMask)) p f e := by
  unfold resolveIndirect at h
  split at h
  · exact ⟨‹_›, (Option.some.inj h).symm⟩
  · cases h

theorem resolveShortIndexed_some (h : resolveShortIndexed p f e = some e') :
    f.L = f.n + 1 ∧ e' = plainThen (.sidx (f.op 0 &&& p.indPtrMask) (f.op 1)) p f e := by
  unfold resolveShortIndexed at h
  split at h
  · exact ⟨‹_›, (Option.some.inj h).symm⟩
  · cases h

theorem resolveLongIndexed_some (h : resolveLongIndexed p f e = some e') :
    f.L = f.n + 2 ∧
      e' = plainThen (.lidx (f.op 0 &&& p.indPtrMask) (le16 (f.op 1) (f.op 2))) p f e := by
  unfold resolveLongIndexed at h
  split at h
  · exact ⟨‹_›, (Option.some.inj h).symm⟩
  · cases h

theorem resolveExtIndirect_some (h : resolveExtIndirect p f e = some e') :
    f.L = f.n ∧ e' = plainThen (.eind (f.op 0 &&& p.extPtrMask)) p f e := by
  unfold resolveExtIndirect at h
  split at h
  · exact ⟨‹_›, (Option.some.inj h).symm⟩
  · cases h

theorem resolveExtIndexed_some (h : resolveExtIndexed p f e = some e') :
    f.L = f.n + 3 ∧ e' =
      plainThen (.eidx (f.op 0 &&& p.extPtrMask) (le24 (f.op 1) (f.op 2) (f.op 3))) p f e := by
  unfold resolveExtIndexed at h
  split at h
  · exact ⟨‹_›, (Option.some.inj h).symm⟩
  · cases h

theorem resolveFixed_some (h : resolveFixed p f e = some e') :
    f.L = f.n ∧ (∀ d ∈ f.t.ops, fixedAccepts d.role = true) ∧
      e' = (f.t.ops.zip f.ops.reverse).foldl (fun e x => fixedOperand p x.1 x.2 e) e := by
  unfold resolveFixed at h
  split at h
  · rename_i hc
    exact ⟨hc.1, List.all_eq_true.mp hc.2, (Option.some.inj h).symm⟩
  · cases h

theorem resolveLowWalk_some (h : resolveLowWalk p f e = some e') :
    f.n ≤ f.L ∧ e' =
      if countIsImmediate f.opcode (f.op (f.L - f.n)) then
        plainThen (.imm8 (f.op (f.L - f.n))) p f e
      else (plain p (f.n - 1) f e).regOperand p f.lastName (f.op (f.L - f.n)) := by
  unfold resolveLowWalk at h
  split at h
  · exact ⟨‹_›, (Option.some.inj h).symm⟩
  · cases h

/-- What a fold of plain register operands does: operands are appended in order, nothing else than
operands, cross-references and `seen` changes (spec/40_resolution.md R126). -/
theorem foldl_regOperand (l : List (OperandDesc × Byte)) (e : Eval) :
    let e' := l.foldl (fun e x => e.regOperand p x.1.name x.2) e
    e'.record = { e.record with
      operands := e.record.operands ++ l.map (fun x => ⟨x.1.name, .reg x.2⟩),
      xrefs := e'.record.xrefs } := by
  induction l generalizing e with
  | nil => simp
  | cons x l ih =>
    simp only [List.foldl_cons, List.map_cons]
    rw [ih]
    simp [Eval.regOperand]

/-- PLAIN(c) appends a register operand for each of its positions, from the last operand byte
backwards (spec/40_resolution.md R126). -/
theorem plain_operands (c : Nat) :
    (plain p c f e).record.operands = e.record.operands ++
      ((f.t.ops.take c).zip f.ops.reverse).map (fun x => ⟨x.1.name, .reg x.2⟩) := by
  unfold plain
  rw [foldl_regOperand]

/-- PLAIN changes no field but operands and cross-references. -/
theorem plain_frame (c : Nat) :
    (plain p c f e).record = { e.record with
      operands := (plain p c f e).record.operands, xrefs := (plain p c f e).record.xrefs } := by
  rw [plain_operands]
  unfold plain
  exact foldl_regOperand _ _

/-- The group tests partition the byte values: the middle group is exactly 0x40-0xBF
(spec/30_encoding.md R89). -/
theorem groupOf_middle : ∀ b : Byte, 0x40 ≤ b.toNat → b.toNat < 0xC0 → groupOf b = .middle := by
  decide

end Sys2Proof.Machine
end

