-- ==== Sys2Proof/Laws/PerInstr.lean ====
section
/-! SUPPORT. The family `Encodes`: the operand bytes of an instruction, under the opcode of its row,
are read back as that instruction (spec/30_encoding.md R77-R79). One lemma per constructor. -/

namespace Sys2Proof.Laws.Encodes

open Machine

/-- Reading an instruction's own opcode and operand bytes gives the instruction. -/
def Statement (i : Instr) : Prop :=
  buildInstr (instrRow i).signed (instrRow i).opcode (operandBytes i) = some i

/-- The eight values of a 3-bit field. -/
theorem three_bits : ∀ h : BitVec 3,
    h = 0 ∨ h = 1 ∨ h = 2 ∨ h = 3 ∨ h = 4 ∨ h = 5 ∨ h = 6 ∨ h = 7 := by decide

theorem build_sjmp (h : BitVec 3) (lo : Byte) :
    buildInstr false (0x20 ||| h.setWidth 8) [lo] = some (.sjmp (h ++ lo)) := by
  rcases three_bits h with rfl | rfl | rfl | rfl | rfl | rfl | rfl | rfl <;> rfl

theorem build_scall (h : BitVec 3) (lo : Byte) :
    buildInstr false (0x28 ||| h.setWidth 8) [lo] = some (.scall (h ++ lo)) := by
  rcases three_bits h with rfl | rfl | rfl | rfl | rfl | rfl | rfl | rfl <;> rfl

theorem build_jbc (h : BitVec 3) (reg disp : Byte) :
    buildInstr false (0x30 ||| h.setWidth 8) [reg, disp] = some (.jbc h reg disp) := by
  rcases three_bits h with rfl | rfl | rfl | rfl | rfl | rfl | rfl | rfl <;> rfl

theorem build_jbs (h : BitVec 3) (reg disp : Byte) :
    buildInstr false (0x38 ||| h.setWidth 8) [reg, disp] = some (.jbs h reg disp) := by
  rcases three_bits h with rfl | rfl | rfl | rfl | rfl | rfl | rfl | rfl <;> rfl

theorem skip (pad : Byte) : Statement (.skip pad) :=
  (rfl : buildInstr false 0x00 [pad] = some (.skip pad))
theorem clrw (dst : Byte) : Statement (.clrw dst) :=
  (rfl : buildInstr false 0x01 [dst] = some (.clrw dst))
theorem notw (dst : Byte) : Statement (.notw dst) :=
  (rfl : buildInstr false 0x02 [dst] = some (.notw dst))
theorem negw (dst : Byte) : Statement (.negw dst) :=
  (rfl : buildInstr false 0x03 [dst] = some (.negw dst))
theorem xchDir (dst src : Byte) : Statement (.xchDir dst src) :=
  (rfl : buildInstr false 0x04 [src, dst] = some (.xchDir dst src))
theorem decw (dst : Byte) : Statement (.decw dst) :=
  (rfl : buildInstr false 0x05 [dst] = some (.decw dst))
theorem ext (dst : Byte) : Statement (.ext dst) :=
  (rfl : buildInstr false 0x06 [dst] = some (.ext dst))
theorem incw (dst : Byte) : Statement (.incw dst) :=
  (rfl : buildInstr false 0x07 [dst] = some (.incw dst))
theorem shrw (dst cnt : Byte) : Statement (.shrw dst cnt) :=
  (rfl : buildInstr false 0x08 [cnt, dst] = some (.shrw dst cnt))
theorem shlw (dst cnt : Byte) : Statement (.shlw dst cnt) :=
  (rfl : buildInstr false 0x09 [cnt, dst] = some (.shlw dst cnt))
theorem shraw (dst cnt : Byte) : Statement (.shraw dst cnt) :=
  (rfl : buildInstr false 0x0A [cnt, dst] = some (.shraw dst cnt))
theorem xchIdx (dst base : Byte) (off : IndexOffset) : Statement (.xchIdx dst base off) := by
  cases off with
  | byte o => exact (rfl : buildInstr false 0x0B [base, o, dst] = some (.xchIdx dst base (.byte o)))
  | word w =>
    have h : buildInstr false 0x0B [base, byteOf w 0, byteOf w 1, dst] =
        some (.xchIdx dst base (.word (le16 (byteOf w 0) (byteOf w 1)))) := rfl
    rw [le16_byteOf] at h
    exact h
theorem shrl (dst cnt : Byte) : Statement (.shrl dst cnt) :=
  (rfl : buildInstr false 0x0C [cnt, dst] = some (.shrl dst cnt))
theorem shll (dst cnt : Byte) : Statement (.shll dst cnt) :=
  (rfl : buildInstr false 0x0D [cnt, dst] = some (.shll dst cnt))
theorem shral (dst cnt : Byte) : Statement (.shral dst cnt) :=
  (rfl : buildInstr false 0x0E [cnt, dst] = some (.shral dst cnt))
theorem norml (dst cnt : Byte) : Statement (.norml dst cnt) :=
  (rfl : buildInstr false 0x0F [cnt, dst] = some (.norml dst cnt))
theorem clrb (dst : Byte) : Statement (.clrb dst) :=
  (rfl : buildInstr false 0x11 [dst] = some (.clrb dst))
theorem notb (dst : Byte) : Statement (.notb dst) :=
  (rfl : buildInstr false 0x12 [dst] = some (.notb dst))
theorem negb (dst : Byte) : Statement (.negb dst) :=
  (rfl : buildInstr false 0x13 [dst] = some (.negb dst))
theorem xchbDir (dst src : Byte) : Statement (.xchbDir dst src) :=
  (rfl : buildInstr false 0x14 [src, dst] = some (.xchbDir dst src))
theorem decb (dst : Byte) : Statement (.decb dst) :=
  (rfl : buildInstr false 0x15 [dst] = some (.decb dst))
theorem extb (dst : Byte) : Statement (.extb dst) :=
  (rfl : buildInstr false 0x16 [dst] = some (.extb dst))
theorem incb (dst : Byte) : Statement (.incb dst) :=
  (rfl : buildInstr false 0x17 [dst] = some (.incb dst))
theorem shrb (dst cnt : Byte) : Statement (.shrb dst cnt) :=
  (rfl : buildInstr false 0x18 [cnt, dst] = some (.shrb dst cnt))
theorem shlb (dst cnt : Byte) : Statement (.shlb dst cnt) :=
  (rfl : buildInstr false 0x19 [cnt, dst] = some (.shlb dst cnt))
theorem shrab (dst cnt : Byte) : Statement (.shrab dst cnt) :=
  (rfl : buildInstr false 0x1A [cnt, dst] = some (.shrab dst cnt))
theorem xchbIdx (dst base : Byte) (off : IndexOffset) : Statement (.xchbIdx dst base off) := by
  cases off with
  | byte o => exact (rfl : buildInstr false 0x1B [base, o, dst] = some (.xchbIdx dst base (.byte o)))
  | word w =>
    have h : buildInstr false 0x1B [base, byteOf w 0, byteOf w 1, dst] =
        some (.xchbIdx dst base (.word (le16 (byteOf w 0) (byteOf w 1)))) := rfl
    rw [le16_byteOf] at h
    exact h
theorem estEInd (src ptr : Byte) : Statement (.estEInd src ptr) :=
  (rfl : buildInstr false 0x1C [ptr, src] = some (.estEInd src ptr))
theorem estEIdx (src ptr : Byte) (disp : BitVec 24) : Statement (.estEIdx src ptr disp) := by
  have h : buildInstr false 0x1D [ptr, byteOf disp 0, byteOf disp 1, byteOf disp 2, src] =
      some (.estEIdx src ptr (le24 (byteOf disp 0) (byteOf disp 1) (byteOf disp 2))) := rfl
  rw [le24_byteOf] at h
  exact h
theorem estbEInd (src ptr : Byte) : Statement (.estbEInd src ptr) :=
  (rfl : buildInstr false 0x1E [ptr, src] = some (.estbEInd src ptr))
theorem estbEIdx (src ptr : Byte) (disp : BitVec 24) : Statement (.estbEIdx src ptr disp) := by
  have h : buildInstr false 0x1F [ptr, byteOf disp 0, byteOf disp 1, byteOf disp 2, src] =
      some (.estbEIdx src ptr (le24 (byteOf disp 0) (byteOf disp 1) (byteOf disp 2))) := rfl
  rw [le24_byteOf] at h
  exact h
theorem sjmp (disp : BitVec 11) : Statement (.sjmp disp) :=
  (build_sjmp _ _).trans (congrArg (fun d => some (Instr.sjmp d)) (disp11_split disp))
theorem scall (disp : BitVec 11) : Statement (.scall disp) :=
  (build_scall _ _).trans (congrArg (fun d => some (Instr.scall d)) (disp11_split disp))
theorem jbc (bitno : BitVec 3) (reg disp : Byte) : Statement (.jbc bitno reg disp) :=
  build_jbc bitno reg disp
theorem jbs (bitno : BitVec 3) (reg disp : Byte) : Statement (.jbs bitno reg disp) :=
  build_jbs bitno reg disp
theorem and3Dir (dst src1 src2 : Byte) : Statement (.and3Dir dst src1 src2) :=
  (rfl : buildInstr false 0x40 [src2, src1, dst] = some (.and3Dir dst src1 src2))
theorem and3Imm (dst src1 : Byte) (imm : Word) : Statement (.and3Imm dst src1 imm) := by
  have h : buildInstr false 0x41 [byteOf imm 0, byteOf imm 1, src1, dst] =
      some (.and3Imm dst src1 (le16 (byteOf imm 0) (byteOf imm 1))) := rfl
  rw [le16_byteOf] at h
  exact h
theorem and3Ind (dst src1 ptr : Byte) : Statement (.and3Ind dst src1 ptr) :=
  (rfl : buildInstr false 0x42 [ptr, src1, dst] = some (.and3Ind dst src1 ptr))
theorem and3Idx (dst src1 base : Byte) (off : IndexOffset) : Statement (.and3Idx dst src1 base off) := by
  cases off with
  | byte o => exact (rfl : buildInstr false 0x43 [base, o, src1, dst] = some (.and3Idx dst src1 base (.byte o)))
  | word w =>
    have h : buildInstr false 0x43 [base, byteOf w 0, byteOf w 1, src1, dst] =
        some (.and3Idx dst src1 base (.word (le16 (byteOf w 0) (byteOf w 1)))) := rfl
    rw [le16_byteOf] at h
    exact h
theorem add3Dir (dst src1 src2 : Byte) : Statement (.add3Dir dst src1 src2) :=
  (rfl : buildInstr false 0x44 [src2, src1, dst] = some (.add3Dir dst src1 src2))
theorem add3Imm (dst src1 : Byte) (imm : Word) : Statement (.add3Imm dst src1 imm) := by
  have h : buildInstr false 0x45 [byteOf imm 0, byteOf imm 1, src1, dst] =
      some (.add3Imm dst src1 (le16 (byteOf imm 0) (byteOf imm 1))) := rfl
  rw [le16_byteOf] at h
  exact h
theorem add3Ind (dst src1 ptr : Byte) : Statement (.add3Ind dst src1 ptr) :=
  (rfl : buildInstr false 0x46 [ptr, src1, dst] = some (.add3Ind dst src1 ptr))
theorem add3Idx (dst src1 base : Byte) (off : IndexOffset) : Statement (.add3Idx dst src1 base off) := by
  cases off with
  | byte o => exact (rfl : buildInstr false 0x47 [base, o, src1, dst] = some (.add3Idx dst src1 base (.byte o)))
  | word w =>
    have h : buildInstr false 0x47 [base, byteOf w 0, byteOf w 1, src1, dst] =
        some (.add3Idx dst src1 base (.word (le16 (byteOf w 0) (byteOf w 1)))) := rfl
    rw [le16_byteOf] at h
    exact h
theorem sub3Dir (dst src1 src2 : Byte) : Statement (.sub3Dir dst src1 src2) :=
  (rfl : buildInstr false 0x48 [src2, src1, dst] = some (.sub3Dir dst src1 src2))
theorem sub3Imm (dst src1 : Byte) (imm : Word) : Statement (.sub3Imm dst src1 imm) := by
  have h : buildInstr false 0x49 [byteOf imm 0, byteOf imm 1, src1, dst] =
      some (.sub3Imm dst src1 (le16 (byteOf imm 0) (byteOf imm 1))) := rfl
  rw [le16_byteOf] at h
  exact h
theorem sub3Ind (dst src1 ptr : Byte) : Statement (.sub3Ind dst src1 ptr) :=
  (rfl : buildInstr false 0x4A [ptr, src1, dst] = some (.sub3Ind dst src1 ptr))
theorem sub3Idx (dst src1 base : Byte) (off : IndexOffset) : Statement (.sub3Idx dst src1 base off) := by
  cases off with
  | byte o => exact (rfl : buildInstr false 0x4B [base, o, src1, dst] = some (.sub3Idx dst src1 base (.byte o)))
  | word w =>
    have h : buildInstr false 0x4B [base, byteOf w 0, byteOf w 1, src1, dst] =
        some (.sub3Idx dst src1 base (.word (le16 (byteOf w 0) (byteOf w 1)))) := rfl
    rw [le16_byteOf] at h
    exact h
theorem mulu3Dir (dst src1 src2 : Byte) : Statement (.mulu3Dir dst src1 src2) :=
  (rfl : buildInstr false 0x4C [src2, src1, dst] = some (.mulu3Dir dst src1 src2))
theorem mulu3Imm (dst src1 : Byte) (imm : Word) : Statement (.mulu3Imm dst src1 imm) := by
  have h : buildInstr false 0x4D [byteOf imm 0, byteOf imm 1, src1, dst] =
      some (.mulu3Imm dst src1 (le16 (byteOf imm 0) (byteOf imm 1))) := rfl
  rw [le16_byteOf] at h
  exact h
theorem mulu3Ind (dst src1 ptr : Byte) : Statement (.mulu3Ind dst src1 ptr) :=
  (rfl : buildInstr false 0x4E [ptr, src1, dst] = some (.mulu3Ind dst src1 ptr))
theorem mulu3Idx (dst src1 base : Byte) (off : IndexOffset) : Statement (.mulu3Idx dst src1 base off) := by
  cases off with
  | byte o => exact (rfl : buildInstr false 0x4F [base, o, src1, dst] = some (.mulu3Idx dst src1 base (.byte o)))
  | word w =>
    have h : buildInstr false 0x4F [base, byteOf w 0, byteOf w 1, src1, dst] =
        some (.mulu3Idx dst src1 base (.word (le16 (byteOf w 0) (byteOf w 1)))) := rfl
    rw [le16_byteOf] at h
    exact h
theorem andb3Dir (dst src1 src2 : Byte) : Statement (.andb3Dir dst src1 src2) :=
  (rfl : buildInstr false 0x50 [src2, src1, dst] = some (.andb3Dir dst src1 src2))
theorem andb3Imm (dst src1 imm : Byte) : Statement (.andb3Imm dst src1 imm) :=
  (rfl : buildInstr false 0x51 [imm, src1, dst] = some (.andb3Imm dst src1 imm))
theorem andb3Ind (dst src1 ptr : Byte) : Statement (.andb3Ind dst src1 ptr) :=
  (rfl : buildInstr false 0x52 [ptr, src1, dst] = some (.andb3Ind dst src1 ptr))
theorem andb3Idx (dst src1 base : Byte) (off : IndexOffset) : Statement (.andb3Idx dst src1 base off) := by
  cases off with
  | byte o => exact (rfl : buildInstr false 0x53 [base, o, src1, dst] = some (.andb3Idx dst src1 base (.byte o)))
  | word w =>
    have h : buildInstr false 0x53 [base, byteOf w 0, byteOf w 1, src1, dst] =
        some (.andb3Idx dst src1 base (.word (le16 (byteOf w 0) (byteOf w 1)))) := rfl
    rw [le16_byteOf] at h
    exact h
theorem addb3Dir (dst src1 src2 : Byte) : Statement (.addb3Dir dst src1 src2) :=
  (rfl : buildInstr false 0x54 [src2, src1, dst] = some (.addb3Dir dst src1 src2))
theorem addb3Imm (dst src1 imm : Byte) : Statement (.addb3Imm dst src1 imm) :=
  (rfl : buildInstr false 0x55 [imm, src1, dst] = some (.addb3Imm dst src1 imm))
theorem addb3Ind (dst src1 ptr : Byte) : Statement (.addb3Ind dst src1 ptr) :=
  (rfl : buildInstr false 0x56 [ptr, src1, dst] = some (.addb3Ind dst src1 ptr))
theorem addb3Idx (dst src1 base : Byte) (off : IndexOffset) : Statement (.addb3Idx dst src1 base off) := by
  cases off with
  | byte o => exact (rfl : buildInstr false 0x57 [base, o, src1, dst] = some (.addb3Idx dst src1 base (.byte o)))
  | word w =>
    have h : buildInstr false 0x57 [base, byteOf w 0, byteOf w 1, src1, dst] =
        some (.addb3Idx dst src1 base (.word (le16 (byteOf w 0) (byteOf w 1)))) := rfl
    rw [le16_byteOf] at h
    exact h
theorem subb3Dir (dst src1 src2 : Byte) : Statement (.subb3Dir dst src1 src2) :=
  (rfl : buildInstr false 0x58 [src2, src1, dst] = some (.subb3Dir dst src1 src2))
theorem subb3Imm (dst src1 imm : Byte) : Statement (.subb3Imm dst src1 imm) :=
  (rfl : buildInstr false 0x59 [imm, src1, dst] = some (.subb3Imm dst src1 imm))
theorem subb3Ind (dst src1 ptr : Byte) : Statement (.subb3Ind dst src1 ptr) :=
  (rfl : buildInstr false 0x5A [ptr, src1, dst] = some (.subb3Ind dst src1 ptr))
theorem subb3Idx (dst src1 base : Byte) (off : IndexOffset) : Statement (.subb3Idx dst src1 base off) := by
  cases off with
  | byte o => exact (rfl : buildInstr false 0x5B [base, o, src1, dst] = some (.subb3Idx dst src1 base (.byte o)))
  | word w =>
    have h : buildInstr false 0x5B [base, byteOf w 0, byteOf w 1, src1, dst] =
        some (.subb3Idx dst src1 base (.word (le16 (byteOf w 0) (byteOf w 1)))) := rfl
    rw [le16_byteOf] at h
    exact h
theorem mulub3Dir (dst src1 src2 : Byte) : Statement (.mulub3Dir dst src1 src2) :=
  (rfl : buildInstr false 0x5C [src2, src1, dst] = some (.mulub3Dir dst src1 src2))
theorem mulub3Imm (dst src1 imm : Byte) : Statement (.mulub3Imm dst src1 imm) :=
  (rfl : buildInstr false 0x5D [imm, src1, dst] = some (.mulub3Imm dst src1 imm))
theorem mulub3Ind (dst src1 ptr : Byte) : Statement (.mulub3Ind dst src1 ptr) :=
  (rfl : buildInstr false 0x5E [ptr, src1, dst] = some (.mulub3Ind dst src1 ptr))
theorem mulub3Idx (dst src1 base : Byte) (off : IndexOffset) : Statement (.mulub3Idx dst src1 base off) := by
  cases off with
  | byte o => exact (rfl : buildInstr false 0x5F [base, o, src1, dst] = some (.mulub3Idx dst src1 base (.byte o)))
  | word w =>
    have h : buildInstr false 0x5F [base, byteOf w 0, byteOf w 1, src1, dst] =
        some (.mulub3Idx dst src1 base (.word (le16 (byteOf w 0) (byteOf w 1)))) := rfl
    rw [le16_byteOf] at h
    exact h
theorem andDir (dst src : Byte) : Statement (.andDir dst src) :=
  (rfl : buildInstr false 0x60 [src, dst] = some (.andDir dst src))
theorem andImm (dst : Byte) (imm : Word) : Statement (.andImm dst imm) := by
  have h : buildInstr false 0x61 [byteOf imm 0, byteOf imm 1, dst] =
      some (.andImm dst (le16 (byteOf imm 0) (byteOf imm 1))) := rfl
  rw [le16_byteOf] at h
  exact h
theorem andInd (dst ptr : Byte) : Statement (.andInd dst ptr) :=
  (rfl : buildInstr false 0x62 [ptr, dst] = some (.andInd dst ptr))
theorem andIdx (dst base : Byte) (off : IndexOffset) : Statement (.andIdx dst base off) := by
  cases off with
  | byte o => exact (rfl : buildInstr false 0x63 [base, o, dst] = some (.andIdx dst base (.byte o)))
  | word w =>
    have h : buildInstr false 0x63 [base, byteOf w 0, byteOf w 1, dst] =
        some (.andIdx dst base (.word (le16 (byteOf w 0) (byteOf w 1)))) := rfl
    rw [le16_byteOf] at h
    exact h
theorem addDir (dst src : Byte) : Statement (.addDir dst src) :=
  (rfl : buildInstr false 0x64 [src, dst] = some (.addDir dst src))
theorem addImm (dst : Byte) (imm : Word) : Statement (.addImm dst imm) := by
  have h : buildInstr false 0x65 [byteOf imm 0, byteOf imm 1, dst] =
      some (.addImm dst (le16 (byteOf imm 0) (byteOf imm 1))) := rfl
  rw [le16_byteOf] at h
  exact h
theorem addInd (dst ptr : Byte) : Statement (.addInd dst ptr) :=
  (rfl : buildInstr false 0x66 [ptr, dst] = some (.addInd dst ptr))
theorem addIdx (dst base : Byte) (off : IndexOffset) : Statement (.addIdx dst base off) := by
  cases off with
  | byte o => exact (rfl : buildInstr false 0x67 [base, o, dst] = some (.addIdx dst base (.byte o)))
  | word w =>
    have h : buildInstr false 0x67 [base, byteOf w 0, byteOf w 1, dst] =
        some (.addIdx dst base (.word (le16 (byteOf w 0) (byteOf w 1)))) := rfl
    rw [le16_byteOf] at h
    exact h
theorem subDir (dst src : Byte) : Statement (.subDir dst src) :=
  (rfl : buildInstr false 0x68 [src, dst] = some (.subDir dst src))
theorem subImm (dst : Byte) (imm : Word) : Statement (.subImm dst imm) := by
  have h : buildInstr false 0x69 [byteOf imm 0, byteOf imm 1, dst] =
      some (.subImm dst (le16 (byteOf imm 0) (byteOf imm 1))) := rfl
  rw [le16_byteOf] at h
  exact h
theorem subInd (dst ptr : Byte) : Statement (.subInd dst ptr) :=
  (rfl : buildInstr false 0x6A [ptr, dst] = some (.subInd dst ptr))
theorem subIdx (dst base : Byte) (off : IndexOffset) : Statement (.subIdx dst base off) := by
  cases off with
  | byte o => exact (rfl : buildInstr false 0x6B [base, o, dst] = some (.subIdx dst base (.byte o)))
  | word w =>
    have h : buildInstr false 0x6B [base, byteOf w 0, byteOf w 1, dst] =
        some (.subIdx dst base (.word (le16 (byteOf w 0) (byteOf w 1)))) := rfl
    rw [le16_byteOf] at h
    exact h
theorem muluDir (dst src : Byte) : Statement (.muluDir dst src) :=
  (rfl : buildInstr false 0x6C [src, dst] = some (.muluDir dst src))
theorem muluImm (dst : Byte) (imm : Word) : Statement (.muluImm dst imm) := by
  have h : buildInstr false 0x6D [byteOf imm 0, byteOf imm 1, dst] =
      some (.muluImm dst (le16 (byteOf imm 0) (byteOf imm 1))) := rfl
  rw [le16_byteOf] at h
  exact h
theorem muluInd (dst ptr : Byte) : Statement (.muluInd dst ptr) :=
  (rfl : buildInstr false 0x6E [ptr, dst] = some (.muluInd dst ptr))
theorem muluIdx (dst base : Byte) (off : IndexOffset) : Statement (.muluIdx dst base off) := by
  cases off with
  | byte o => exact (rfl : buildInstr false 0x6F [base, o, dst] = some (.muluIdx dst base (.byte o)))
  | word w =>
    have h : buildInstr false 0x6F [base, byteOf w 0, byteOf w 1, dst] =
        some (.muluIdx dst base (.word (le16 (byteOf w 0) (byteOf w 1)))) := rfl
    rw [le16_byteOf] at h
    exact h
theorem andbDir (dst src : Byte) : Statement (.andbDir dst src) :=
  (rfl : buildInstr false 0x70 [src, dst] = some (.andbDir dst src))
theorem andbImm (dst imm : Byte) : Statement (.andbImm dst imm) :=
  (rfl : buildInstr false 0x71 [imm, dst] = some (.andbImm dst imm))
theorem andbInd (dst ptr : Byte) : Statement (.andbInd dst ptr) :=
  (rfl : buildInstr false 0x72 [ptr, dst] = some (.andbInd dst ptr))
theorem andbIdx (dst base : Byte) (off : IndexOffset) : Statement (.andbIdx dst base off) := by
  cases off with
  | byte o => exact (rfl : buildInstr false 0x73 [base, o, dst] = some (.andbIdx dst base (.byte o)))
  | word w =>
    have h : buildInstr false 0x73 [base, byteOf w 0, byteOf w 1, dst] =
        some (.andbIdx dst base (.word (le16 (byteOf w 0) (byteOf w 1)))) := rfl
    rw [le16_byteOf] at h
    exact h
theorem addbDir (dst src : Byte) : Statement (.addbDir dst src) :=
  (rfl : buildInstr false 0x74 [src, dst] = some (.addbDir dst src))
theorem addbImm (dst imm : Byte) : Statement (.addbImm dst imm) :=
  (rfl : buildInstr false 0x75 [imm, dst] = some (.addbImm dst imm))
theorem addbInd (dst ptr : Byte) : Statement (.addbInd dst ptr) :=
  (rfl : buildInstr false 0x76 [ptr, dst] = some (.addbInd dst ptr))
theorem addbIdx (dst base : Byte) (off : IndexOffset) : Statement (.addbIdx dst base off) := by
  cases off with
  | byte o => exact (rfl : buildInstr false 0x77 [base, o, dst] = some (.addbIdx dst base (.byte o)))
  | word w =>
    have h : buildInstr false 0x77 [base, byteOf w 0, byteOf w 1, dst] =
        some (.addbIdx dst base (.word (le16 (byteOf w 0) (byteOf w 1)))) := rfl
    rw [le16_byteOf] at h
    exact h
theorem subbDir (dst src : Byte) : Statement (.subbDir dst src) :=
  (rfl : buildInstr false 0x78 [src, dst] = some (.subbDir dst src))
theorem subbImm (dst imm : Byte) : Statement (.subbImm dst imm) :=
  (rfl : buildInstr false 0x79 [imm, dst] = some (.subbImm dst imm))
theorem subbInd (dst ptr : Byte) : Statement (.subbInd dst ptr) :=
  (rfl : buildInstr false 0x7A [ptr, dst] = some (.subbInd dst ptr))
theorem subbIdx (dst base : Byte) (off : IndexOffset) : Statement (.subbIdx dst base off) := by
  cases off with
  | byte o => exact (rfl : buildInstr false 0x7B [base, o, dst] = some (.subbIdx dst base (.byte o)))
  | word w =>
    have h : buildInstr false 0x7B [base, byteOf w 0, byteOf w 1, dst] =
        some (.subbIdx dst base (.word (le16 (byteOf w 0) (byteOf w 1)))) := rfl
    rw [le16_byteOf] at h
    exact h
theorem mulubDir (dst src : Byte) : Statement (.mulubDir dst src) :=
  (rfl : buildInstr false 0x7C [src, dst] = some (.mulubDir dst src))
theorem mulubImm (dst imm : Byte) : Statement (.mulubImm dst imm) :=
  (rfl : buildInstr false 0x7D [imm, dst] = some (.mulubImm dst imm))
theorem mulubInd (dst ptr : Byte) : Statement (.mulubInd dst ptr) :=
  (rfl : buildInstr false 0x7E [ptr, dst] = some (.mulubInd dst ptr))
theorem mulubIdx (dst base : Byte) (off : IndexOffset) : Statement (.mulubIdx dst base off) := by
  cases off with
  | byte o => exact (rfl : buildInstr false 0x7F [base, o, dst] = some (.mulubIdx dst base (.byte o)))
  | word w =>
    have h : buildInstr false 0x7F [base, byteOf w 0, byteOf w 1, dst] =
        some (.mulubIdx dst base (.word (le16 (byteOf w 0) (byteOf w 1)))) := rfl
    rw [le16_byteOf] at h
    exact h
theorem orDir (dst src : Byte) : Statement (.orDir dst src) :=
  (rfl : buildInstr false 0x80 [src, dst] = some (.orDir dst src))
theorem orImm (dst : Byte) (imm : Word) : Statement (.orImm dst imm) := by
  have h : buildInstr false 0x81 [byteOf imm 0, byteOf imm 1, dst] =
      some (.orImm dst (le16 (byteOf imm 0) (byteOf imm 1))) := rfl
  rw [le16_byteOf] at h
  exact h
theorem orInd (dst ptr : Byte) : Statement (.orInd dst ptr) :=
  (rfl : buildInstr false 0x82 [ptr, dst] = some (.orInd dst ptr))
theorem orIdx (dst base : Byte) (off : IndexOffset) : Statement (.orIdx dst base off) := by
  cases off with
  | byte o => exact (rfl : buildInstr false 0x83 [base, o, dst] = some (.orIdx dst base (.byte o)))
  | word w =>
    have h : buildInstr false 0x83 [base, byteOf w 0, byteOf w 1, dst] =
        some (.orIdx dst base (.word (le16 (byteOf w 0) (byteOf w 1)))) := rfl
    rw [le16_byteOf] at h
    exact h
theorem xorDir (dst src : Byte) : Statement (.xorDir dst src) :=
  (rfl : buildInstr false 0x84 [src, dst] = some (.xorDir dst src))
theorem xorImm (dst : Byte) (imm : Word) : Statement (.xorImm dst imm) := by
  have h : buildInstr false 0x85 [byteOf imm 0, byteOf imm 1, dst] =
      some (.xorImm dst (le16 (byteOf imm 0) (byteOf imm 1))) := rfl
  rw [le16_byteOf] at h
  exact h
theorem xorInd (dst ptr : Byte) : Statement (.xorInd dst ptr) :=
  (rfl : buildInstr false 0x86 [ptr, dst] = some (.xorInd dst ptr))
theorem xorIdx (dst base : Byte) (off : IndexOffset) : Statement (.xorIdx dst base off) := by
  cases off with
  | byte o => exact (rfl : buildInstr false 0x87 [base, o, dst] = some (.xorIdx dst base (.byte o)))
  | word w =>
    have h : buildInstr false 0x87 [base, byteOf w 0, byteOf w 1, dst] =
        some (.xorIdx dst base (.word (le16 (byteOf w 0) (byteOf w 1)))) := rfl
    rw [le16_byteOf] at h
    exact h
theorem cmpDir (dst src : Byte) : Statement (.cmpDir dst src) :=
  (rfl : buildInstr false 0x88 [src, dst] = some (.cmpDir dst src))
theorem cmpImm (dst : Byte) (imm : Word) : Statement (.cmpImm dst imm) := by
  have h : buildInstr false 0x89 [byteOf imm 0, byteOf imm 1, dst] =
      some (.cmpImm dst (le16 (byteOf imm 0) (byteOf imm 1))) := rfl
  rw [le16_byteOf] at h
  exact h
theorem cmpInd (dst ptr : Byte) : Statement (.cmpInd dst ptr) :=
  (rfl : buildInstr false 0x8A [ptr, dst] = some (.cmpInd dst ptr))
theorem cmpIdx (dst base : Byte) (off : IndexOffset) : Statement (.cmpIdx dst base off) := by
  cases off with
  | byte o => exact (rfl : buildInstr false 0x8B [base, o, dst] = some (.cmpIdx dst base (.byte o)))
  | word w =>
    have h : buildInstr false 0x8B [base, byteOf w 0, byteOf w 1, dst] =
        some (.cmpIdx dst base (.word (le16 (byteOf w 0) (byteOf w 1)))) := rfl
    rw [le16_byteOf] at h
    exact h
theorem divuDir (dst src : Byte) : Statement (.divuDir dst src) :=
  (rfl : buildInstr false 0x8C [src, dst] = some (.divuDir dst src))
theorem divuImm (dst : Byte) (imm : Word) : Statement (.divuImm dst imm) := by
  have h : buildInstr false 0x8D [byteOf imm 0, byteOf imm 1, dst] =
      some (.divuImm dst (le16 (byteOf imm 0) (byteOf imm 1))) := rfl
  rw [le16_byteOf] at h
  exact h
theorem divuInd (dst ptr : Byte) : Statement (.divuInd dst ptr) :=
  (rfl : buildInstr false 0x8E [ptr, dst] = some (.divuInd dst ptr))
theorem divuIdx (dst base : Byte) (off : IndexOffset) : Statement (.divuIdx dst base off) := by
  cases off with
  | byte o => exact (rfl : buildInstr false 0x8F [base, o, dst] = some (.divuIdx dst base (.byte o)))
  | word w =>
    have h : buildInstr false 0x8F [base, byteOf w 0, byteOf w 1, dst] =
        some (.divuIdx dst base (.word (le16 (byteOf w 0) (byteOf w 1)))) := rfl
    rw [le16_byteOf] at h
    exact h
theorem orbDir (dst src : Byte) : Statement (.orbDir dst src) :=
  (rfl : buildInstr false 0x90 [src, dst] = some (.orbDir dst src))
theorem orbImm (dst imm : Byte) : Statement (.orbImm dst imm) :=
  (rfl : buildInstr false 0x91 [imm, dst] = some (.orbImm dst imm))
theorem orbInd (dst ptr : Byte) : Statement (.orbInd dst ptr) :=
  (rfl : buildInstr false 0x92 [ptr, dst] = some (.orbInd dst ptr))
theorem orbIdx (dst base : Byte) (off : IndexOffset) : Statement (.orbIdx dst base off) := by
  cases off with
  | byte o => exact (rfl : buildInstr false 0x93 [base, o, dst] = some (.orbIdx dst base (.byte o)))
  | word w =>
    have h : buildInstr false 0x93 [base, byteOf w 0, byteOf w 1, dst] =
        some (.orbIdx dst base (.word (le16 (byteOf w 0) (byteOf w 1)))) := rfl
    rw [le16_byteOf] at h
    exact h
theorem xorbDir (dst src : Byte) : Statement (.xorbDir dst src) :=
  (rfl : buildInstr false 0x94 [src, dst] = some (.xorbDir dst src))
theorem xorbImm (dst imm : Byte) : Statement (.xorbImm dst imm) :=
  (rfl : buildInstr false 0x95 [imm, dst] = some (.xorbImm dst imm))
theorem xorbInd (dst ptr : Byte) : Statement (.xorbInd dst ptr) :=
  (rfl : buildInstr false 0x96 [ptr, dst] = some (.xorbInd dst ptr))
theorem xorbIdx (dst base : Byte) (off : IndexOffset) : Statement (.xorbIdx dst base off) := by
  cases off with
  | byte o => exact (rfl : buildInstr false 0x97 [base, o, dst] = some (.xorbIdx dst base (.byte o)))
  | word w =>
    have h : buildInstr false 0x97 [base, byteOf w 0, byteOf w 1, dst] =
        some (.xorbIdx dst base (.word (le16 (byteOf w 0) (byteOf w 1)))) := rfl
    rw [le16_byteOf] at h
    exact h
theorem cmpbDir (dst src : Byte) : Statement (.cmpbDir dst src) :=
  (rfl : buildInstr false 0x98 [src, dst] = some (.cmpbDir dst src))
theorem cmpbImm (dst imm : Byte) : Statement (.cmpbImm dst imm) :=
  (rfl : buildInstr false 0x99 [imm, dst] = some (.cmpbImm dst imm))
theorem cmpbInd (dst ptr : Byte) : Statement (.cmpbInd dst ptr) :=
  (rfl : buildInstr false 0x9A [ptr, dst] = some (.cmpbInd dst ptr))
theorem cmpbIdx (dst base : Byte) (off : IndexOffset) : Statement (.cmpbIdx dst base off) := by
  cases off with
  | byte o => exact (rfl : buildInstr false 0x9B [base, o, dst] = some (.cmpbIdx dst base (.byte o)))
  | word w =>
    have h : buildInstr false 0x9B [base, byteOf w 0, byteOf w 1, dst] =
        some (.cmpbIdx dst base (.word (le16 (byteOf w 0) (byteOf w 1)))) := rfl
    rw [le16_byteOf] at h
    exact h
theorem divubDir (dst src : Byte) : Statement (.divubDir dst src) :=
  (rfl : buildInstr false 0x9C [src, dst] = some (.divubDir dst src))
theorem divubImm (dst imm : Byte) : Statement (.divubImm dst imm) :=
  (rfl : buildInstr false 0x9D [imm, dst] = some (.divubImm dst imm))
theorem divubInd (dst ptr : Byte) : Statement (.divubInd dst ptr) :=
  (rfl : buildInstr false 0x9E [ptr, dst] = some (.divubInd dst ptr))
theorem divubIdx (dst base : Byte) (off : IndexOffset) : Statement (.divubIdx dst base off) := by
  cases off with
  | byte o => exact (rfl : buildInstr false 0x9F [base, o, dst] = some (.divubIdx dst base (.byte o)))
  | word w =>
    have h : buildInstr false 0x9F [base, byteOf w 0, byteOf w 1, dst] =
        some (.divubIdx dst base (.word (le16 (byteOf w 0) (byteOf w 1)))) := rfl
    rw [le16_byteOf] at h
    exact h
theorem ldDir (dst src : Byte) : Statement (.ldDir dst src) :=
  (rfl : buildInstr false 0xA0 [src, dst] = some (.ldDir dst src))
theorem ldImm (dst : Byte) (imm : Word) : Statement (.ldImm dst imm) := by
  have h : buildInstr false 0xA1 [byteOf imm 0, byteOf imm 1, dst] =
      some (.ldImm dst (le16 (byteOf imm 0) (byteOf imm 1))) := rfl
  rw [le16_byteOf] at h
  exact h
theorem ldInd (dst ptr : Byte) : Statement (.ldInd dst ptr) :=
  (rfl : buildInstr false 0xA2 [ptr, dst] = some (.ldInd dst ptr))
theorem ldIdx (dst base : Byte) (off : IndexOffset) : Statement (.ldIdx dst base off) := by
  cases off with
  | byte o => exact (rfl : buildInstr false 0xA3 [base, o, dst] = some (.ldIdx dst base (.byte o)))
  | word w =>
    have h : buildInstr false 0xA3 [base, byteOf w 0, byteOf w 1, dst] =
        some (.ldIdx dst base (.word (le16 (byteOf w 0) (byteOf w 1)))) := rfl
    rw [le16_byteOf] at h
    exact h
theorem addcDir (dst src : Byte) : Statement (.addcDir dst src) :=
  (rfl : buildInstr false 0xA4 [src, dst] = some (.addcDir dst src))
theorem addcImm (dst : Byte) (imm : Word) : Statement (.addcImm dst imm) := by
  have h : buildInstr false 0xA5 [byteOf imm 0, byteOf imm 1, dst] =
      some (.addcImm dst (le16 (byteOf imm 0) (byteOf imm 1))) := rfl
  rw [le16_byteOf] at h
  exact h
theorem addcInd (dst ptr : Byte) : Statement (.addcInd dst ptr) :=
  (rfl : buildInstr false 0xA6 [ptr, dst] = some (.addcInd dst ptr))
theorem addcIdx (dst base : Byte) (off : IndexOffset) : Statement (.addcIdx dst base off) := by
  cases off with
  | byte o => exact (rfl : buildInstr false 0xA7 [base, o, dst] = some (.addcIdx dst base (.byte o)))
  | word w =>
    have h : buildInstr false 0xA7 [base, byteOf w 0, byteOf w 1, dst] =
        some (.addcIdx dst base (.word (le16 (byteOf w 0) (byteOf w 1)))) := rfl
    rw [le16_byteOf] at h
    exact h
theorem subcDir (dst src : Byte) : Statement (.subcDir dst src) :=
  (rfl : buildInstr false 0xA8 [src, dst] = some (.subcDir dst src))
theorem subcImm (dst : Byte) (imm : Word) : Statement (.subcImm dst imm) := by
  have h : buildInstr false 0xA9 [byteOf imm 0, byteOf imm 1, dst] =
      some (.subcImm dst (le16 (byteOf imm 0) (byteOf imm 1))) := rfl
  rw [le16_byteOf] at h
  exact h
theorem subcInd (dst ptr : Byte) : Statement (.subcInd dst ptr) :=
  (rfl : buildInstr false 0xAA [ptr, dst] = some (.subcInd dst ptr))
theorem subcIdx (dst base : Byte) (off : IndexOffset) : Statement (.subcIdx dst base off) := by
  cases off with
  | byte o => exact (rfl : buildInstr false 0xAB [base, o, dst] = some (.subcIdx dst base (.byte o)))
  | word w =>
    have h : buildInstr false 0xAB [base, byteOf w 0, byteOf w 1, dst] =
        some (.subcIdx dst base (.word (le16 (byteOf w 0) (byteOf w 1)))) := rfl
    rw [le16_byteOf] at h
    exact h
theorem ldbzeDir (dst src : Byte) : Statement (.ldbzeDir dst src) :=
  (rfl : buildInstr false 0xAC [src, dst] = some (.ldbzeDir dst src))
theorem ldbzeImm (dst imm : Byte) : Statement (.ldbzeImm dst imm) :=
  (rfl : buildInstr false 0xAD [imm, dst] = some (.ldbzeImm dst imm))
theorem ldbzeInd (dst ptr : Byte) : Statement (.ldbzeInd dst ptr) :=
  (rfl : buildInstr false 0xAE [ptr, dst] = some (.ldbzeInd dst ptr))
theorem ldbzeIdx (dst base : Byte) (off : IndexOffset) : Statement (.ldbzeIdx dst base off) := by
  cases off with
  | byte o => exact (rfl : buildInstr false 0xAF [base, o, dst] = some (.ldbzeIdx dst base (.byte o)))
  | word w =>
    have h : buildInstr false 0xAF [base, byteOf w 0, byteOf w 1, dst] =
        some (.ldbzeIdx dst base (.word (le16 (byteOf w 0) (byteOf w 1)))) := rfl
    rw [le16_byteOf] at h
    exact h
theorem ldbDir (dst src : Byte) : Statement (.ldbDir dst src) :=
  (rfl : buildInstr false 0xB0 [src, dst] = some (.ldbDir dst src))
theorem ldbImm (dst imm : Byte) : Statement (.ldbImm dst imm) :=
  (rfl : buildInstr false 0xB1 [imm, dst] = some (.ldbImm dst imm))
theorem ldbInd (dst ptr : Byte) : Statement (.ldbInd dst ptr) :=
  (rfl : buildInstr false 0xB2 [ptr, dst] = some (.ldbInd dst ptr))
theorem ldbIdx (dst base : Byte) (off : IndexOffset) : Statement (.ldbIdx dst base off) := by
  cases off with
  | byte o => exact (rfl : buildInstr false 0xB3 [base, o, dst] = some (.ldbIdx dst base (.byte o)))
  | word w =>
    have h : buildInstr false 0xB3 [base, byteOf w 0, byteOf w 1, dst] =
        some (.ldbIdx dst base (.word (le16 (byteOf w 0) (byteOf w 1)))) := rfl
    rw [le16_byteOf] at h
    exact h
theorem addcbDir (dst src : Byte) : Statement (.addcbDir dst src) :=
  (rfl : buildInstr false 0xB4 [src, dst] = some (.addcbDir dst src))
theorem addcbImm (dst imm : Byte) : Statement (.addcbImm dst imm) :=
  (rfl : buildInstr false 0xB5 [imm, dst] = some (.addcbImm dst imm))
theorem addcbInd (dst ptr : Byte) : Statement (.addcbInd dst ptr) :=
  (rfl : buildInstr false 0xB6 [ptr, dst] = some (.addcbInd dst ptr))
theorem addcbIdx (dst base : Byte) (off : IndexOffset) : Statement (.addcbIdx dst base off) := by
  cases off with
  | byte o => exact (rfl : buildInstr false 0xB7 [base, o, dst] = some (.addcbIdx dst base (.byte o)))
  | word w =>
    have h : buildInstr false 0xB7 [base, byteOf w 0, byteOf w 1, dst] =
        some (.addcbIdx dst base (.word (le16 (byteOf w 0) (byteOf w 1)))) := rfl
    rw [le16_byteOf] at h
    exact h
theorem subcbDir (dst src : Byte) : Statement (.subcbDir dst src) :=
  (rfl : buildInstr false 0xB8 [src, dst] = some (.subcbDir dst src))
theorem subcbImm (dst imm : Byte) : Statement (.subcbImm dst imm) :=
  (rfl : buildInstr false 0xB9 [imm, dst] = some (.subcbImm dst imm))
theorem subcbInd (dst ptr : Byte) : Statement (.subcbInd dst ptr) :=
  (rfl : buildInstr false 0xBA [ptr, dst] = some (.subcbInd dst ptr))
theorem subcbIdx (dst base : Byte) (off : IndexOffset) : Statement (.subcbIdx dst base off) := by
  cases off with
  | byte o => exact (rfl : buildInstr false 0xBB [base, o, dst] = some (.subcbIdx dst base (.byte o)))
  | word w =>
    have h : buildInstr false 0xBB [base, byteOf w 0, byteOf w 1, dst] =
        some (.subcbIdx dst base (.word (le16 (byteOf w 0) (byteOf w 1)))) := rfl
    rw [le16_byteOf] at h
    exact h
theorem ldbseDir (dst src : Byte) : Statement (.ldbseDir dst src) :=
  (rfl : buildInstr false 0xBC [src, dst] = some (.ldbseDir dst src))
theorem ldbseImm (dst imm : Byte) : Statement (.ldbseImm dst imm) :=
  (rfl : buildInstr false 0xBD [imm, dst] = some (.ldbseImm dst imm))
theorem ldbseInd (dst ptr : Byte) : Statement (.ldbseInd dst ptr) :=
  (rfl : buildInstr false 0xBE [ptr, dst] = some (.ldbseInd dst ptr))
theorem ldbseIdx (dst base : Byte) (off : IndexOffset) : Statement (.ldbseIdx dst base off) := by
  cases off with
  | byte o => exact (rfl : buildInstr false 0xBF [base, o, dst] = some (.ldbseIdx dst base (.byte o)))
  | word w =>
    have h : buildInstr false 0xBF [base, byteOf w 0, byteOf w 1, dst] =
        some (.ldbseIdx dst base (.word (le16 (byteOf w 0) (byteOf w 1)))) := rfl
    rw [le16_byteOf] at h
    exact h
theorem stDir (src dst : Byte) : Statement (.stDir src dst) :=
  (rfl : buildInstr false 0xC0 [dst, src] = some (.stDir src dst))
theorem bmov (ptrs cnt : Byte) : Statement (.bmov ptrs cnt) :=
  (rfl : buildInstr false 0xC1 [cnt, ptrs] = some (.bmov ptrs cnt))
theorem stInd (src ptr : Byte) : Statement (.stInd src ptr) :=
  (rfl : buildInstr false 0xC2 [ptr, src] = some (.stInd src ptr))
theorem stIdx (src base : Byte) (off : IndexOffset) : Statement (.stIdx src base off) := by
  cases off with
  | byte o => exact (rfl : buildInstr false 0xC3 [base, o, src] = some (.stIdx src base (.byte o)))
  | word w =>
    have h : buildInstr false 0xC3 [base, byteOf w 0, byteOf w 1, src] =
        some (.stIdx src base (.word (le16 (byteOf w 0) (byteOf w 1)))) := rfl
    rw [le16_byteOf] at h
    exact h
theorem stbDir (src dst : Byte) : Statement (.stbDir src dst) :=
  (rfl : buildInstr false 0xC4 [dst, src] = some (.stbDir src dst))
theorem cmpl (dst src : Byte) : Statement (.cmpl dst src) :=
  (rfl : buildInstr false 0xC5 [src, dst] = some (.cmpl dst src))
theorem stbInd (src ptr : Byte) : Statement (.stbInd src ptr) :=
  (rfl : buildInstr false 0xC6 [ptr, src] = some (.stbInd src ptr))
theorem stbIdx (src base : Byte) (off : IndexOffset) : Statement (.stbIdx src base off) := by
  cases off with
  | byte o => exact (rfl : buildInstr false 0xC7 [base, o, src] = some (.stbIdx src base (.byte o)))
  | word w =>
    have h : buildInstr false 0xC7 [base, byteOf w 0, byteOf w 1, src] =
        some (.stbIdx src base (.word (le16 (byteOf w 0) (byteOf w 1)))) := rfl
    rw [le16_byteOf] at h
    exact h
theorem pushDir (src : Byte) : Statement (.pushDir src) :=
  (rfl : buildInstr false 0xC8 [src] = some (.pushDir src))
theorem pushImm (imm : Word) : Statement (.pushImm imm) := by
  have h : buildInstr false 0xC9 [byteOf imm 0, byteOf imm 1] =
      some (.pushImm (le16 (byteOf imm 0) (byteOf imm 1))) := rfl
  rw [le16_byteOf] at h
  exact h
theorem pushInd (ptr : Byte) : Statement (.pushInd ptr) :=
  (rfl : buildInstr false 0xCA [ptr] = some (.pushInd ptr))
theorem pushIdx (base : Byte) (off : IndexOffset) : Statement (.pushIdx base off) := by
  cases off with
  | byte o => exact (rfl : buildInstr false 0xCB [base, o] = some (.pushIdx base (.byte o)))
  | word w =>
    have h : buildInstr false 0xCB [base, byteOf w 0, byteOf w 1] =
        some (.pushIdx base (.word (le16 (byteOf w 0) (byteOf w 1)))) := rfl
    rw [le16_byteOf] at h
    exact h
theorem popDir (dst : Byte) : Statement (.popDir dst) :=
  (rfl : buildInstr false 0xCC [dst] = some (.popDir dst))
theorem bmovi (ptrs cnt : Byte) : Statement (.bmovi ptrs cnt) :=
  (rfl : buildInstr false 0xCD [cnt, ptrs] = some (.bmovi ptrs cnt))
theorem popInd (ptr : Byte) : Statement (.popInd ptr) :=
  (rfl : buildInstr false 0xCE [ptr] = some (.popInd ptr))
theorem popIdx (base : Byte) (off : IndexOffset) : Statement (.popIdx base off) := by
  cases off with
  | byte o => exact (rfl : buildInstr false 0xCF [base, o] = some (.popIdx base (.byte o)))
  | word w =>
    have h : buildInstr false 0xCF [base, byteOf w 0, byteOf w 1] =
        some (.popIdx base (.word (le16 (byteOf w 0) (byteOf w 1)))) := rfl
    rw [le16_byteOf] at h
    exact h
theorem jnst (disp : Byte) : Statement (.jnst disp) :=
  (rfl : buildInstr false 0xD0 [disp] = some (.jnst disp))
theorem jnh (disp : Byte) : Statement (.jnh disp) :=
  (rfl : buildInstr false 0xD1 [disp] = some (.jnh disp))
theorem jgt (disp : Byte) : Statement (.jgt disp) :=
  (rfl : buildInstr false 0xD2 [disp] = some (.jgt disp))
theorem jnc (disp : Byte) : Statement (.jnc disp) :=
  (rfl : buildInstr false 0xD3 [disp] = some (.jnc disp))
theorem jnvt (disp : Byte) : Statement (.jnvt disp) :=
  (rfl : buildInstr false 0xD4 [disp] = some (.jnvt disp))
theorem jnv (disp : Byte) : Statement (.jnv disp) :=
  (rfl : buildInstr false 0xD5 [disp] = some (.jnv disp))
theorem jge (disp : Byte) : Statement (.jge disp) :=
  (rfl : buildInstr false 0xD6 [disp] = some (.jge disp))
theorem jne (disp : Byte) : Statement (.jne disp) :=
  (rfl : buildInstr false 0xD7 [disp] = some (.jne disp))
theorem jst (disp : Byte) : Statement (.jst disp) :=
  (rfl : buildInstr false 0xD8 [disp] = some (.jst disp))
theorem jh (disp : Byte) : Statement (.jh disp) :=
  (rfl : buildInstr false 0xD9 [disp] = some (.jh disp))
theorem jle (disp : Byte) : Statement (.jle disp) :=
  (rfl : buildInstr false 0xDA [disp] = some (.jle disp))
theorem jc (disp : Byte) : Statement (.jc disp) :=
  (rfl : buildInstr false 0xDB [disp] = some (.jc disp))
theorem jvt (disp : Byte) : Statement (.jvt disp) :=
  (rfl : buildInstr false 0xDC [disp] = some (.jvt disp))
theorem jv (disp : Byte) : Statement (.jv disp) :=
  (rfl : buildInstr false 0xDD [disp] = some (.jv disp))
theorem jlt (disp : Byte) : Statement (.jlt disp) :=
  (rfl : buildInstr false 0xDE [disp] = some (.jlt disp))
theorem je (disp : Byte) : Statement (.je disp) :=
  (rfl : buildInstr false 0xDF [disp] = some (.je disp))
theorem djnz (cnt disp : Byte) : Statement (.djnz cnt disp) :=
  (rfl : buildInstr false 0xE0 [cnt, disp] = some (.djnz cnt disp))
theorem djnzw (cnt disp : Byte) : Statement (.djnzw cnt disp) :=
  (rfl : buildInstr false 0xE1 [cnt, disp] = some (.djnzw cnt disp))
theorem tijmp (tbase mask index : Byte) : Statement (.tijmp tbase mask index) :=
  (rfl : buildInstr false 0xE2 [index, mask, tbase] = some (.tijmp tbase mask index))
theorem ebr (ptr : Byte) : Statement (.ebr ptr) :=
  (rfl : buildInstr false 0xE3 [ptr] = some (.ebr ptr))
theorem ebmovi (ptrs cnt : Byte) : Statement (.ebmovi ptrs cnt) :=
  (rfl : buildInstr false 0xE4 [cnt, ptrs] = some (.ebmovi ptrs cnt))
theorem ejmp (disp : BitVec 24) : Statement (.ejmp disp) := by
  have h : buildInstr false 0xE6 [byteOf disp 0, byteOf disp 1, byteOf disp 2] =
      some (.ejmp (le24 (byteOf disp 0) (byteOf disp 1) (byteOf disp 2))) := rfl
  rw [le24_byteOf] at h
  exact h
theorem ljmp (disp : Word) : Statement (.ljmp disp) := by
  have h : buildInstr false 0xE7 [byteOf disp 0, byteOf disp 1] =
      some (.ljmp (le16 (byteOf disp 0) (byteOf disp 1))) := rfl
  rw [le16_byteOf] at h
  exact h
theorem eldEInd (dst ptr : Byte) : Statement (.eldEInd dst ptr) :=
  (rfl : buildInstr false 0xE8 [ptr, dst] = some (.eldEInd dst ptr))
theorem eldEIdx (dst ptr : Byte) (disp : BitVec 24) : Statement (.eldEIdx dst ptr disp) := by
  have h : buildInstr false 0xE9 [ptr, byteOf disp 0, byteOf disp 1, byteOf disp 2, dst] =
      some (.eldEIdx dst ptr (le24 (byteOf disp 0) (byteOf disp 1) (byteOf disp 2))) := rfl
  rw [le24_byteOf] at h
  exact h
theorem eldbEInd (dst ptr : Byte) : Statement (.eldbEInd dst ptr) :=
  (rfl : buildInstr false 0xEA [ptr, dst] = some (.eldbEInd dst ptr))
theorem eldbEIdx (dst ptr : Byte) (disp : BitVec 24) : Statement (.eldbEIdx dst ptr disp) := by
  have h : buildInstr false 0xEB [ptr, byteOf disp 0, byteOf disp 1, byteOf disp 2, dst] =
      some (.eldbEIdx dst ptr (le24 (byteOf disp 0) (byteOf disp 1) (byteOf disp 2))) := rfl
  rw [le24_byteOf] at h
  exact h
theorem dpts : Statement .dpts :=
  (rfl : buildInstr false 0xEC [] = some .dpts)
theorem epts : Statement .epts :=
  (rfl : buildInstr false 0xED [] = some .epts)
theorem lcall (disp : Word) : Statement (.lcall disp) := by
  have h : buildInstr false 0xEF [byteOf disp 0, byteOf disp 1] =
      some (.lcall (le16 (byteOf disp 0) (byteOf disp 1))) := rfl
  rw [le16_byteOf] at h
  exact h
theorem ret : Statement .ret :=
  (rfl : buildInstr false 0xF0 [] = some .ret)
theorem ecall (disp : BitVec 24) : Statement (.ecall disp) := by
  have h : buildInstr false 0xF1 [byteOf disp 0, byteOf disp 1, byteOf disp 2] =
      some (.ecall (le24 (byteOf disp 0) (byteOf disp 1) (byteOf disp 2))) := rfl
  rw [le24_byteOf] at h
  exact h
theorem pushf : Statement .pushf :=
  (rfl : buildInstr false 0xF2 [] = some .pushf)
theorem popf : Statement .popf :=
  (rfl : buildInstr false 0xF3 [] = some .popf)
theorem pusha : Statement .pusha :=
  (rfl : buildInstr false 0xF4 [] = some .pusha)
theorem popa : Statement .popa :=
  (rfl : buildInstr false 0xF5 [] = some .popa)
theorem idlpd (key : Byte) : Statement (.idlpd key) :=
  (rfl : buildInstr false 0xF6 [key] = some (.idlpd key))
theorem trap : Statement .trap :=
  (rfl : buildInstr false 0xF7 [] = some .trap)
theorem clrc : Statement .clrc :=
  (rfl : buildInstr false 0xF8 [] = some .clrc)
theorem setc : Statement .setc :=
  (rfl : buildInstr false 0xF9 [] = some .setc)
theorem di : Statement .di :=
  (rfl : buildInstr false 0xFA [] = some .di)
theorem ei : Statement .ei :=
  (rfl : buildInstr false 0xFB [] = some .ei)
theorem clrvt : Statement .clrvt :=
  (rfl : buildInstr false 0xFC [] = some .clrvt)
theorem nop : Statement .nop :=
  (rfl : buildInstr false 0xFD [] = some .nop)
theorem rst : Statement .rst :=
  (rfl : buildInstr false 0xFF [] = some .rst)
theorem mul3Dir (dst src1 src2 : Byte) : Statement (.mul3Dir dst src1 src2) :=
  (rfl : buildInstr true 0x4C [src2, src1, dst] = some (.mul3Dir dst src1 src2))
theorem mul3Imm (dst src1 : Byte) (imm : Word) : Statement (.mul3Imm dst src1 imm) := by
  have h : buildInstr true 0x4D [byteOf imm 0, byteOf imm 1, src1, dst] =
      some (.mul3Imm dst src1 (le16 (byteOf imm 0) (byteOf imm 1))) := rfl
  rw [le16_byteOf] at h
  exact h
theorem mul3Ind (dst src1 ptr : Byte) : Statement (.mul3Ind dst src1 ptr) :=
  (rfl : buildInstr true 0x4E [ptr, src1, dst] = some (.mul3Ind dst src1 ptr))
theorem mul3Idx (dst src1 base : Byte) (off : IndexOffset) : Statement (.mul3Idx dst src1 base off) := by
  cases off with
  | byte o => exact (rfl : buildInstr true 0x4F [base, o, src1, dst] = some (.mul3Idx dst src1 base (.byte o)))
  | word w =>
    have h : buildInstr true 0x4F [base, byteOf w 0, byteOf w 1, src1, dst] =
        some (.mul3Idx dst src1 base (.word (le16 (byteOf w 0) (byteOf w 1)))) := rfl
    rw [le16_byteOf] at h
    exact h
theorem mulb3Dir (dst src1 src2 : Byte) : Statement (.mulb3Dir dst src1 src2) :=
  (rfl : buildInstr true 0x5C [src2, src1, dst] = some (.mulb3Dir dst src1 src2))
theorem mulb3Imm (dst src1 imm : Byte) : Statement (.mulb3Imm dst src1 imm) :=
  (rfl : buildInstr true 0x5D [imm, src1, dst] = some (.mulb3Imm dst src1 imm))
theorem mulb3Ind (dst src1 ptr : Byte) : Statement (.mulb3Ind dst src1 ptr) :=
  (rfl : buildInstr true 0x5E [ptr, src1, dst] = some (.mulb3Ind dst src1 ptr))
theorem mulb3Idx (dst src1 base : Byte) (off : IndexOffset) : Statement (.mulb3Idx dst src1 base off) := by
  cases off with
  | byte o => exact (rfl : buildInstr true 0x5F [base, o, src1, dst] = some (.mulb3Idx dst src1 base (.byte o)))
  | word w =>
    have h : buildInstr true 0x5F [base, byteOf w 0, byteOf w 1, src1, dst] =
        some (.mulb3Idx dst src1 base (.word (le16 (byteOf w 0) (byteOf w 1)))) := rfl
    rw [le16_byteOf] at h
    exact h
theorem mulDir (dst src : Byte) : Statement (.mulDir dst src) :=
  (rfl : buildInstr true 0x6C [src, dst] = some (.mulDir dst src))
theorem mulImm (dst : Byte) (imm : Word) : Statement (.mulImm dst imm) := by
  have h : buildInstr true 0x6D [byteOf imm 0, byteOf imm 1, dst] =
      some (.mulImm dst (le16 (byteOf imm 0) (byteOf imm 1))) := rfl
  rw [le16_byteOf] at h
  exact h
theorem mulInd (dst ptr : Byte) : Statement (.mulInd dst ptr) :=
  (rfl : buildInstr true 0x6E [ptr, dst] = some (.mulInd dst ptr))
theorem mulIdx (dst base : Byte) (off : IndexOffset) : Statement (.mulIdx dst base off) := by
  cases off with
  | byte o => exact (rfl : buildInstr true 0x6F [base, o, dst] = some (.mulIdx dst base (.byte o)))
  | word w =>
    have h : buildInstr true 0x6F [base, byteOf w 0, byteOf w 1, dst] =
        some (.mulIdx dst base (.word (le16 (byteOf w 0) (byteOf w 1)))) := rfl
    rw [le16_byteOf] at h
    exact h
theorem mulbDir (dst src : Byte) : Statement (.mulbDir dst src) :=
  (rfl : buildInstr true 0x7C [src, dst] = some (.mulbDir dst src))
theorem mulbImm (dst imm : Byte) : Statement (.mulbImm dst imm) :=
  (rfl : buildInstr true 0x7D [imm, dst] = some (.mulbImm dst imm))
theorem mulbInd (dst ptr : Byte) : Statement (.mulbInd dst ptr) :=
  (rfl : buildInstr true 0x7E [ptr, dst] = some (.mulbInd dst ptr))
theorem mulbIdx (dst base : Byte) (off : IndexOffset) : Statement (.mulbIdx dst base off) := by
  cases off with
  | byte o => exact (rfl : buildInstr true 0x7F [base, o, dst] = some (.mulbIdx dst base (.byte o)))
  | word w =>
    have h : buildInstr true 0x7F [base, byteOf w 0, byteOf w 1, dst] =
        some (.mulbIdx dst base (.word (le16 (byteOf w 0) (byteOf w 1)))) := rfl
    rw [le16_byteOf] at h
    exact h
theorem divDir (dst src : Byte) : Statement (.divDir dst src) :=
  (rfl : buildInstr true 0x8C [src, dst] = some (.divDir dst src))
theorem divImm (dst : Byte) (imm : Word) : Statement (.divImm dst imm) := by
  have h : buildInstr true 0x8D [byteOf imm 0, byteOf imm 1, dst] =
      some (.divImm dst (le16 (byteOf imm 0) (byteOf imm 1))) := rfl
  rw [le16_byteOf] at h
  exact h
theorem divInd (dst ptr : Byte) : Statement (.divInd dst ptr) :=
  (rfl : buildInstr true 0x8E [ptr, dst] = some (.divInd dst ptr))
theorem divIdx (dst base : Byte) (off : IndexOffset) : Statement (.divIdx dst base off) := by
  cases off with
  | byte o => exact (rfl : buildInstr true 0x8F [base, o, dst] = some (.divIdx dst base (.byte o)))
  | word w =>
    have h : buildInstr true 0x8F [base, byteOf w 0, byteOf w 1, dst] =
        some (.divIdx dst base (.word (le16 (byteOf w 0) (byteOf w 1)))) := rfl
    rw [le16_byteOf] at h
    exact h
theorem divbDir (dst src : Byte) : Statement (.divbDir dst src) :=
  (rfl : buildInstr true 0x9C [src, dst] = some (.divbDir dst src))
theorem divbImm (dst imm : Byte) : Statement (.divbImm dst imm) :=
  (rfl : buildInstr true 0x9D [imm, dst] = some (.divbImm dst imm))
theorem divbInd (dst ptr : Byte) : Statement (.divbInd dst ptr) :=
  (rfl : buildInstr true 0x9E [ptr, dst] = some (.divbInd dst ptr))
theorem divbIdx (dst base : Byte) (off : IndexOffset) : Statement (.divbIdx dst base off) := by
  cases off with
  | byte o => exact (rfl : buildInstr true 0x9F [base, o, dst] = some (.divbIdx dst base (.byte o)))
  | word w =>
    have h : buildInstr true 0x9F [base, byteOf w 0, byteOf w 1, dst] =
        some (.divbIdx dst base (.word (le16 (byteOf w 0) (byteOf w 1)))) := rfl
    rw [le16_byteOf] at h
    exact h

end Sys2Proof.Laws.Encodes
end

