-- ==== Sys2Proof/Tests/Slice0.lean ====
section
/-! SUPPORT. Tests: ill-formed terms that WellFormed refuses, one word of every constructor written
out from its layout, single evaluations with the outcome that spec/95_test_vectors.md or a family
file gives, and for every obligation with hypotheses a state and operands that meet them. -/

namespace Sys2Proof.Tests

open Machine

/-! ## Helpers -/

/-- Bytes on the window port under the parameters `p`, all of them valid, the rest of the window 0. -/
def onPortsOf (p : Params) (addr : Nat) (bytes : List Byte) : State :=
  { State.reset with cfg := p }.present
    (bytes ++ List.replicate (p.maxLen - bytes.length) 0) bytes.length addr

/-- The same under the default parameters. -/
def onPorts (addr : Nat) (bytes : List Byte) : State := onPortsOf defaultParams addr bytes

/-- SIGNED_MODE_BYTE = literal. -/
def literalParams : Params := { defaultParams with signedModeByte := .literal }

/-- EXT_MASK_POINT = displacement. -/
def displacementParams : Params := { defaultParams with extMaskPoint := .displacement }

/-- One step; a fault leaves the state. -/
def after (s : State) : State :=
  match step s with
  | .next t => t
  | .fault _ => s
  | .refused _ => s

/-- What a step puts on the output port. -/
def outcome (s : State) : Option Output :=
  match step s with
  | .next t => some t.out
  | .fault _ => none
  | .refused _ => none

/-- The record a step puts on the output port. -/
def recordOf (s : State) : Option Record :=
  match outcome s with
  | some (.ok r) => some r
  | some (.unknownOpcode _ _) | some (.truncated _) | none => none

/-- The mnemonic, mode and byte length of the record. -/
def headOf (s : State) : Option (String × Mode × Nat) :=
  (recordOf s).map fun r => (r.mnemonic, r.mode, r.byteLength)

/-- The resolved operand values of the record. -/
def valuesOf (s : State) : Option (List OperandVal) :=
  (recordOf s).map fun r => r.operands.map Operand.value

/-- The cross-reference, call and jump targets of the record. -/
def targetsOf (s : State) : Option (List Int × List Int × List Int) :=
  (recordOf s).map fun r =>
    (r.xrefs.map Edge.target, r.calls.map Edge.target, r.jumps.map Edge.target)

/-- The display line of the record. -/
def lineOf (s : State) : Option String :=
  (recordOf s).map fun r => r.displayLine s.cfg

/-- Bytes decode to the instruction, and the instruction encodes to the bytes. -/
def wordsMatch (l : List (List Byte × Instr)) : Bool :=
  l.all fun x => decode defaultParams x.1 == .instr x.2 && encode defaultParams x.2 == x.1

/-- The fetched instruction of a row, with operand bytes that need not fit the row. -/
def fetchedWith (i : Instr) (ops : List Byte) : Fetched :=
  Fetched.ofRow defaultParams (instrRow i).t (instrRow i).signed (instrRow i).opcode ops

/-- The fetched instruction of a term. -/
def fetchedOf (i : Instr) : Fetched := fetchedWith i (operandBytes i)

/-! ## WellFormed refuses -/

theorem test_wf_refuses_byte_offset_under_odd_base :
    Instr.wf defaultParams (.addIdx 0x30 0x51 (.byte 0x10)) = false := by decide

theorem test_wf_refuses_word_offset_under_even_base :
    Instr.wf defaultParams (.addIdx 0x30 0x50 (.word 0x1234)) = false := by decide

theorem test_wf_refuses_signed_byte_offset_under_odd_base :
    Instr.wf defaultParams (.mulIdx 0x30 0x51 (.byte 0x10)) = false := by decide

theorem test_wf_refuses_signed_word_offset_under_even_base :
    Instr.wf defaultParams (.mulIdx 0x30 0x50 (.word 0x1234)) = false := by decide

theorem test_wf_literal_refuses_byte_offset :
    Instr.wf literalParams (.mulIdx 0x30 0x50 (.byte 0x10)) = false := by decide

theorem test_wf_literal_accepts_word_offset :
    Instr.wf literalParams (.mulIdx 0x30 0x50 (.word 0x1234)) = true := by decide

/-! ## Decoding: one word of every constructor -/

/-- The low group: bytes written out from the layout column of spec/opcode_table.json. -/
theorem test_words_skip_to_xchb : wordsMatch [
    ([0x00, 0x5A], .skip 0x5A),
    ([0x01, 0x30], .clrw 0x30),
    ([0x02, 0x30], .notw 0x30),
    ([0x03, 0x30], .negw 0x30),
    ([0x04, 0x22, 0x30], .xchDir 0x30 0x22),
    ([0x05, 0x30], .decw 0x30),
    ([0x06, 0x30], .ext 0x30),
    ([0x07, 0x30], .incw 0x30),
    ([0x08, 0x04, 0x30], .shrw 0x30 0x04),
    ([0x09, 0x04, 0x30], .shlw 0x30 0x04),
    ([0x0A, 0x04, 0x30], .shraw 0x30 0x04),
    ([0x0B, 0x51, 0x34, 0x12, 0x30], .xchIdx 0x30 0x51 (.word 0x1234)),
    ([0x0C, 0x04, 0x30], .shrl 0x30 0x04),
    ([0x0D, 0x04, 0x30], .shll 0x30 0x04),
    ([0x0E, 0x04, 0x30], .shral 0x30 0x04),
    ([0x0F, 0x38, 0x30], .norml 0x30 0x38),
    ([0x11, 0x30], .clrb 0x30),
    ([0x12, 0x30], .notb 0x30),
    ([0x13, 0x30], .negb 0x30),
    ([0x14, 0x22, 0x30], .xchbDir 0x30 0x22),
    ([0x15, 0x30], .decb 0x30),
    ([0x16, 0x30], .extb 0x30),
    ([0x17, 0x30], .incb 0x30),
    ([0x18, 0x04, 0x30], .shrb 0x30 0x04),
    ([0x19, 0x04, 0x30], .shlb 0x30 0x04),
    ([0x1A, 0x04, 0x30], .shrab 0x30 0x04),
    ([0x1B, 0x51, 0x34, 0x12, 0x30], .xchbIdx 0x30 0x51 (.word 0x1234)),
    ([0x1C, 0x41, 0x22], .estEInd 0x22 0x41),
    ([0x1D, 0x41, 0x56, 0x34, 0x92, 0x22], .estEIdx 0x22 0x41 0x923456),
    ([0x1E, 0x41, 0x22], .estbEInd 0x22 0x41),
    ([0x1F, 0x41, 0x56, 0x34, 0x92, 0x22], .estbEIdx 0x22 0x41 0x923456)] = true := by decide

/-- Short jump and call: bytes written out from the layout column of spec/opcode_table.json. -/
theorem test_words_short_jump_call : wordsMatch [
    ([0x25, 0x34], .sjmp 0x534),
    ([0x2D, 0x34], .scall 0x534)] = true := by decide

/-- The bit-test jumps: bytes written out from the layout column of spec/opcode_table.json. -/
theorem test_words_bit_test : wordsMatch [
    ([0x35, 0x80, 0xF0], .jbc 5 0x80 0xF0),
    ([0x3D, 0x80, 0xF0], .jbs 5 0x80 0xF0)] = true := by decide

/-- The conditional jumps: bytes written out from the layout column of spec/opcode_table.json. -/
theorem test_words_cond_jump : wordsMatch [
    ([0xD0, 0xF0], .jnst 0xF0),
    ([0xD1, 0xF0], .jnh 0xF0),
    ([0xD2, 0xF0], .jgt 0xF0),
    ([0xD3, 0xF0], .jnc 0xF0),
    ([0xD4, 0xF0], .jnvt 0xF0),
    ([0xD5, 0xF0], .jnv 0xF0),
    ([0xD6, 0xF0], .jge 0xF0),
    ([0xD7, 0xF0], .jne 0xF0),
    ([0xD8, 0xF0], .jst 0xF0),
    ([0xD9, 0xF0], .jh 0xF0),
    ([0xDA, 0xF0], .jle 0xF0),
    ([0xDB, 0xF0], .jc 0xF0),
    ([0xDC, 0xF0], .jvt 0xF0),
    ([0xDD, 0xF0], .jv 0xF0),
    ([0xDE, 0xF0], .jlt 0xF0),
    ([0xDF, 0xF0], .je 0xF0)] = true := by decide

/-- The 0xEx group: bytes written out from the layout column of spec/opcode_table.json. -/
theorem test_words_ex_group : wordsMatch [
    ([0xE0, 0x04, 0xF0], .djnz 0x04 0xF0),
    ([0xE1, 0x04, 0xF0], .djnzw 0x04 0xF0),
    ([0xE2, 0x45, 0x7E, 0x36], .tijmp 0x36 0x7E 0x45),
    ([0xE3, 0x40], .ebr 0x40),
    ([0xE4, 0x04, 0x60], .ebmovi 0x60 0x04),
    ([0xE6, 0x56, 0x34, 0x92], .ejmp 0x923456),
    ([0xE7, 0x34, 0x12], .ljmp 0x1234),
    ([0xE8, 0x40, 0x30], .eldEInd 0x30 0x40),
    ([0xE9, 0x40, 0x56, 0x34, 0x92, 0x30], .eldEIdx 0x30 0x40 0x923456),
    ([0xEA, 0x40, 0x30], .eldbEInd 0x30 0x40),
    ([0xEB, 0x40, 0x56, 0x34, 0x92, 0x30], .eldbEIdx 0x30 0x40 0x923456),
    ([0xEC], .dpts),
    ([0xED], .epts),
    ([0xEF, 0x34, 0x12], .lcall 0x1234)] = true := by decide

/-- The 0xFx group: bytes written out from the layout column of spec/opcode_table.json. -/
theorem test_words_fx_group : wordsMatch [
    ([0xF0], .ret),
    ([0xF1, 0x56, 0x34, 0x92], .ecall 0x923456),
    ([0xF2], .pushf),
    ([0xF3], .popf),
    ([0xF4], .pusha),
    ([0xF5], .popa),
    ([0xF6, 0xC3], .idlpd 0xC3),
    ([0xF7], .trap),
    ([0xF8], .clrc),
    ([0xF9], .setc),
    ([0xFA], .di),
    ([0xFB], .ei),
    ([0xFC], .clrvt),
    ([0xFD], .nop),
    ([0xFF], .rst)] = true := by decide

/-- The 0xCx group: bytes written out from the layout column of spec/opcode_table.json. -/
theorem test_words_cx_group : wordsMatch [
    ([0xC0, 0x30, 0x22], .stDir 0x22 0x30),
    ([0xC1, 0x04, 0x60], .bmov 0x60 0x04),
    ([0xC2, 0x40, 0x22], .stInd 0x22 0x40),
    ([0xC3, 0x50, 0x7F, 0x22], .stIdx 0x22 0x50 (.byte 0x7F)),
    ([0xC4, 0x30, 0x22], .stbDir 0x22 0x30),
    ([0xC5, 0x22, 0x30], .cmpl 0x30 0x22),
    ([0xC6, 0x41, 0x22], .stbInd 0x22 0x41),
    ([0xC7, 0x50, 0x7F, 0x22], .stbIdx 0x22 0x50 (.byte 0x7F)),
    ([0xC8, 0x22], .pushDir 0x22),
    ([0xC9, 0x34, 0x12], .pushImm 0x1234),
    ([0xCA, 0x40], .pushInd 0x40),
    ([0xCB, 0x51, 0x34, 0x12], .pushIdx 0x51 (.word 0x1234)),
    ([0xCC, 0x30], .popDir 0x30),
    ([0xCD, 0x04, 0x60], .bmovi 0x60 0x04),
    ([0xCE, 0x41], .popInd 0x41),
    ([0xCF, 0x51, 0x34, 0x12], .popIdx 0x51 (.word 0x1234))] = true := by decide

/-- 0x40-0x4F: bytes written out from the layout column of spec/opcode_table.json. -/
theorem test_words_middle_4 : wordsMatch [
    ([0x40, 0x22, 0x32, 0x30], .and3Dir 0x30 0x32 0x22),
    ([0x41, 0x34, 0x12, 0x32, 0x30], .and3Imm 0x30 0x32 0x1234),
    ([0x42, 0x40, 0x32, 0x30], .and3Ind 0x30 0x32 0x40),
    ([0x43, 0x50, 0x7F, 0x32, 0x30], .and3Idx 0x30 0x32 0x50 (.byte 0x7F)),
    ([0x44, 0x22, 0x32, 0x30], .add3Dir 0x30 0x32 0x22),
    ([0x45, 0x34, 0x12, 0x32, 0x30], .add3Imm 0x30 0x32 0x1234),
    ([0x46, 0x41, 0x32, 0x30], .add3Ind 0x30 0x32 0x41),
    ([0x47, 0x50, 0x7F, 0x32, 0x30], .add3Idx 0x30 0x32 0x50 (.byte 0x7F)),
    ([0x48, 0x22, 0x32, 0x30], .sub3Dir 0x30 0x32 0x22),
    ([0x49, 0x34, 0x12, 0x32, 0x30], .sub3Imm 0x30 0x32 0x1234),
    ([0x4A, 0x40, 0x32, 0x30], .sub3Ind 0x30 0x32 0x40),
    ([0x4B, 0x51, 0x34, 0x12, 0x32, 0x30], .sub3Idx 0x30 0x32 0x51 (.word 0x1234)),
    ([0x4C, 0x22, 0x32, 0x30], .mulu3Dir 0x30 0x32 0x22),
    ([0x4D, 0x34, 0x12, 0x32, 0x30], .mulu3Imm 0x30 0x32 0x1234),
    ([0x4E, 0x41, 0x32, 0x30], .mulu3Ind 0x30 0x32 0x41),
    ([0x4F, 0x51, 0x34, 0x12, 0x32, 0x30], .mulu3Idx 0x30 0x32 0x51 (.word 0x1234))] = true := by decide

/-- 0x50-0x5F: bytes written out from the layout column of spec/opcode_table.json. -/
theorem test_words_middle_5 : wordsMatch [
    ([0x50, 0x22, 0x32, 0x30], .andb3Dir 0x30 0x32 0x22),
    ([0x51, 0xA5, 0x32, 0x30], .andb3Imm 0x30 0x32 0xA5),
    ([0x52, 0x40, 0x32, 0x30], .andb3Ind 0x30 0x32 0x40),
    ([0x53, 0x50, 0x7F, 0x32, 0x30], .andb3Idx 0x30 0x32 0x50 (.byte 0x7F)),
    ([0x54, 0x22, 0x32, 0x30], .addb3Dir 0x30 0x32 0x22),
    ([0x55, 0xA5, 0x32, 0x30], .addb3Imm 0x30 0x32 0xA5),
    ([0x56, 0x41, 0x32, 0x30], .addb3Ind 0x30 0x32 0x41),
    ([0x57, 0x50, 0x7F, 0x32, 0x30], .addb3Idx 0x30 0x32 0x50 (.byte 0x7F)),
    ([0x58, 0x22, 0x32, 0x30], .subb3Dir 0x30 0x32 0x22),
    ([0x59, 0xA5, 0x32, 0x30], .subb3Imm 0x30 0x32 0xA5),
    ([0x5A, 0x40, 0x32, 0x30], .subb3Ind 0x30 0x32 0x40),
    ([0x5B, 0x51, 0x34, 0x12, 0x32, 0x30], .subb3Idx 0x30 0x32 0x51 (.word 0x1234)),
    ([0x5C, 0x22, 0x32, 0x30], .mulub3Dir 0x30 0x32 0x22),
    ([0x5D, 0xA5, 0x32, 0x30], .mulub3Imm 0x30 0x32 0xA5),
    ([0x5E, 0x41, 0x32, 0x30], .mulub3Ind 0x30 0x32 0x41),
    ([0x5F, 0x51, 0x34, 0x12, 0x32, 0x30], .mulub3Idx 0x30 0x32 0x51 (.word 0x1234))] = true := by decide

/-- 0x60-0x6F: bytes written out from the layout column of spec/opcode_table.json. -/
theorem test_words_middle_6 : wordsMatch [
    ([0x60, 0x22, 0x30], .andDir 0x30 0x22),
    ([0x61, 0x34, 0x12, 0x30], .andImm 0x30 0x1234),
    ([0x62, 0x40, 0x30], .andInd 0x30 0x40),
    ([0x63, 0x50, 0x7F, 0x30], .andIdx 0x30 0x50 (.byte 0x7F)),
    ([0x64, 0x22, 0x30], .addDir 0x30 0x22),
    ([0x65, 0x34, 0x12, 0x30], .addImm 0x30 0x1234),
    ([0x66, 0x41, 0x30], .addInd 0x30 0x41),
    ([0x67, 0x50, 0x7F, 0x30], .addIdx 0x30 0x50 (.byte 0x7F)),
    ([0x68, 0x22, 0x30], .subDir 0x30 0x22),
    ([0x69, 0x34, 0x12, 0x30], .subImm 0x30 0x1234),
    ([0x6A, 0x40, 0x30], .subInd 0x30 0x40),
    ([0x6B, 0x51, 0x34, 0x12, 0x30], .subIdx 0x30 0x51 (.word 0x1234)),
    ([0x6C, 0x22, 0x30], .muluDir 0x30 0x22),
    ([0x6D, 0x34, 0x12, 0x30], .muluImm 0x30 0x1234),
    ([0x6E, 0x41, 0x30], .muluInd 0x30 0x41),
    ([0x6F, 0x51, 0x34, 0x12, 0x30], .muluIdx 0x30 0x51 (.word 0x1234))] = true := by decide

/-- 0x70-0x7F: bytes written out from the layout column of spec/opcode_table.json. -/
theorem test_words_middle_7 : wordsMatch [
    ([0x70, 0x22, 0x30], .andbDir 0x30 0x22),
    ([0x71, 0xA5, 0x30], .andbImm 0x30 0xA5),
    ([0x72, 0x40, 0x30], .andbInd 0x30 0x40),
    ([0x73, 0x50, 0x7F, 0x30], .andbIdx 0x30 0x50 (.byte 0x7F)),
    ([0x74, 0x22, 0x30], .addbDir 0x30 0x22),
    ([0x75, 0xA5, 0x30], .addbImm 0x30 0xA5),
    ([0x76, 0x41, 0x30], .addbInd 0x30 0x41),
    ([0x77, 0x50, 0x7F, 0x30], .addbIdx 0x30 0x50 (.byte 0x7F)),
    ([0x78, 0x22, 0x30], .subbDir 0x30 0x22),
    ([0x79, 0xA5, 0x30], .subbImm 0x30 0xA5),
    ([0x7A, 0x40, 0x30], .subbInd 0x30 0x40),
    ([0x7B, 0x51, 0x34, 0x12, 0x30], .subbIdx 0x30 0x51 (.word 0x1234)),
    ([0x7C, 0x22, 0x30], .mulubDir 0x30 0x22),
    ([0x7D, 0xA5, 0x30], .mulubImm 0x30 0xA5),
    ([0x7E, 0x41, 0x30], .mulubInd 0x30 0x41),
    ([0x7F, 0x51, 0x34, 0x12, 0x30], .mulubIdx 0x30 0x51 (.word 0x1234))] = true := by decide

/-- 0x80-0x8F: bytes written out from the layout column of spec/opcode_table.json. -/
theorem test_words_middle_8 : wordsMatch [
    ([0x80, 0x22, 0x30], .orDir 0x30 0x22),
    ([0x81, 0x34, 0x12, 0x30], .orImm 0x30 0x1234),
    ([0x82, 0x40, 0x30], .orInd 0x30 0x40),
    ([0x83, 0x50, 0x7F, 0x30], .orIdx 0x30 0x50 (.byte 0x7F)),
    ([0x84, 0x22, 0x30], .xorDir 0x30 0x22),
    ([0x85, 0x34, 0x12, 0x30], .xorImm 0x30 0x1234),
    ([0x86, 0x41, 0x30], .xorInd 0x30 0x41),
    ([0x87, 0x50, 0x7F, 0x30], .xorIdx 0x30 0x50 (.byte 0x7F)),
    ([0x88, 0x22, 0x30], .cmpDir 0x30 0x22),
    ([0x89, 0x34, 0x12, 0x30], .cmpImm 0x30 0x1234),
    ([0x8A, 0x40, 0x30], .cmpInd 0x30 0x40),
    ([0x8B, 0x51, 0x34, 0x12, 0x30], .cmpIdx 0x30 0x51 (.word 0x1234)),
    ([0x8C, 0x22, 0x30], .divuDir 0x30 0x22),
    ([0x8D, 0x34, 0x12, 0x30], .divuImm 0x30 0x1234),
    ([0x8E, 0x41, 0x30], .divuInd 0x30 0x41),
    ([0x8F, 0x51, 0x34, 0x12, 0x30], .divuIdx 0x30 0x51 (.word 0x1234))] = true := by decide

/-- 0x90-0x9F: bytes written out from the layout column of spec/opcode_table.json. -/
theorem test_words_middle_9 : wordsMatch [
    ([0x90, 0x22, 0x30], .orbDir 0x30 0x22),
    ([0x91, 0xA5, 0x30], .orbImm 0x30 0xA5),
    ([0x92, 0x40, 0x30], .orbInd 0x30 0x40),
    ([0x93, 0x50, 0x7F, 0x30], .orbIdx 0x30 0x50 (.byte 0x7F)),
    ([0x94, 0x22, 0x30], .xorbDir 0x30 0x22),
    ([0x95, 0xA5, 0x30], .xorbImm 0x30 0xA5),
    ([0x96, 0x41, 0x30], .xorbInd 0x30 0x41),
    ([0x97, 0x50, 0x7F, 0x30], .xorbIdx 0x30 0x50 (.byte 0x7F)),
    ([0x98, 0x22, 0x30], .cmpbDir 0x30 0x22),
    ([0x99, 0xA5, 0x30], .cmpbImm 0x30 0xA5),
    ([0x9A, 0x40, 0x30], .cmpbInd 0x30 0x40),
    ([0x9B, 0x51, 0x34, 0x12, 0x30], .cmpbIdx 0x30 0x51 (.word 0x1234)),
    ([0x9C, 0x22, 0x30], .divubDir 0x30 0x22),
    ([0x9D, 0xA5, 0x30], .divubImm 0x30 0xA5),
    ([0x9E, 0x41, 0x30], .divubInd 0x30 0x41),
    ([0x9F, 0x51, 0x34, 0x12, 0x30], .divubIdx 0x30 0x51 (.word 0x1234))] = true := by decide

/-- 0xA0-0xAF: bytes written out from the layout column of spec/opcode_table.json. -/
theorem test_words_middle_A : wordsMatch [
    ([0xA0, 0x22, 0x30], .ldDir 0x30 0x22),
    ([0xA1, 0x34, 0x12, 0x30], .ldImm 0x30 0x1234),
    ([0xA2, 0x40, 0x30], .ldInd 0x30 0x40),
    ([0xA3, 0x50, 0x7F, 0x30], .ldIdx 0x30 0x50 (.byte 0x7F)),
    ([0xA4, 0x22, 0x30], .addcDir 0x30 0x22),
    ([0xA5, 0x34, 0x12, 0x30], .addcImm 0x30 0x1234),
    ([0xA6, 0x41, 0x30], .addcInd 0x30 0x41),
    ([0xA7, 0x50, 0x7F, 0x30], .addcIdx 0x30 0x50 (.byte 0x7F)),
    ([0xA8, 0x22, 0x30], .subcDir 0x30 0x22),
    ([0xA9, 0x34, 0x12, 0x30], .subcImm 0x30 0x1234),
    ([0xAA, 0x40, 0x30], .subcInd 0x30 0x40),
    ([0xAB, 0x51, 0x34, 0x12, 0x30], .subcIdx 0x30 0x51 (.word 0x1234)),
    ([0xAC, 0x22, 0x30], .ldbzeDir 0x30 0x22),
    ([0xAD, 0xA5, 0x30], .ldbzeImm 0x30 0xA5),
    ([0xAE, 0x41, 0x30], .ldbzeInd 0x30 0x41),
    ([0xAF, 0x51, 0x34, 0x12, 0x30], .ldbzeIdx 0x30 0x51 (.word 0x1234))] = true := by decide

/-- 0xB0-0xBF: bytes written out from the layout column of spec/opcode_table.json. -/
theorem test_words_middle_B : wordsMatch [
    ([0xB0, 0x22, 0x30], .ldbDir 0x30 0x22),
    ([0xB1, 0xA5, 0x30], .ldbImm 0x30 0xA5),
    ([0xB2, 0x40, 0x30], .ldbInd 0x30 0x40),
    ([0xB3, 0x50, 0x7F, 0x30], .ldbIdx 0x30 0x50 (.byte 0x7F)),
    ([0xB4, 0x22, 0x30], .addcbDir 0x30 0x22),
    ([0xB5, 0xA5, 0x30], .addcbImm 0x30 0xA5),
    ([0xB6, 0x41, 0x30], .addcbInd 0x30 0x41),
    ([0xB7, 0x50, 0x7F, 0x30], .addcbIdx 0x30 0x50 (.byte 0x7F)),
    ([0xB8, 0x22, 0x30], .subcbDir 0x30 0x22),
    ([0xB9, 0xA5, 0x30], .subcbImm 0x30 0xA5),
    ([0xBA, 0x40, 0x30], .subcbInd 0x30 0x40),
    ([0xBB, 0x51, 0x34, 0x12, 0x30], .subcbIdx 0x30 0x51 (.word 0x1234)),
    ([0xBC, 0x22, 0x30], .ldbseDir 0x30 0x22),
    ([0xBD, 0xA5, 0x30], .ldbseImm 0x30 0xA5),
    ([0xBE, 0x41, 0x30], .ldbseInd 0x30 0x41),
    ([0xBF, 0x51, 0x34, 0x12, 0x30], .ldbseIdx 0x30 0x51 (.word 0x1234))] = true := by decide

/-- The signed opcodes: bytes written out from the layout column of spec/opcode_table.json. -/
theorem test_words_signed : wordsMatch [
    ([0xFE, 0x4C, 0x22, 0x32, 0x30], .mul3Dir 0x30 0x32 0x22),
    ([0xFE, 0x4D, 0x34, 0x12, 0x32, 0x30], .mul3Imm 0x30 0x32 0x1234),
    ([0xFE, 0x4E, 0x41, 0x32, 0x30], .mul3Ind 0x30 0x32 0x41),
    ([0xFE, 0x4F, 0x50, 0x7F, 0x32, 0x30], .mul3Idx 0x30 0x32 0x50 (.byte 0x7F)),
    ([0xFE, 0x5C, 0x22, 0x32, 0x30], .mulb3Dir 0x30 0x32 0x22),
    ([0xFE, 0x5D, 0xA5, 0x32, 0x30], .mulb3Imm 0x30 0x32 0xA5),
    ([0xFE, 0x5E, 0x41, 0x32, 0x30], .mulb3Ind 0x30 0x32 0x41),
    ([0xFE, 0x5F, 0x50, 0x7F, 0x32, 0x30], .mulb3Idx 0x30 0x32 0x50 (.byte 0x7F)),
    ([0xFE, 0x6C, 0x22, 0x30], .mulDir 0x30 0x22),
    ([0xFE, 0x6D, 0x34, 0x12, 0x30], .mulImm 0x30 0x1234),
    ([0xFE, 0x6E, 0x41, 0x30], .mulInd 0x30 0x41),
    ([0xFE, 0x6F, 0x51, 0x34, 0x12, 0x30], .mulIdx 0x30 0x51 (.word 0x1234)),
    ([0xFE, 0x7C, 0x22, 0x30], .mulbDir 0x30 0x22),
    ([0xFE, 0x7D, 0xA5, 0x30], .mulbImm 0x30 0xA5),
    ([0xFE, 0x7E, 0x41, 0x30], .mulbInd 0x30 0x41),
    ([0xFE, 0x7F, 0x51, 0x34, 0x12, 0x30], .mulbIdx 0x30 0x51 (.word 0x1234)),
    ([0xFE, 0x8C, 0x22, 0x30], .divDir 0x30 0x22),
    ([0xFE, 0x8D, 0x34, 0x12, 0x30], .divImm 0x30 0x1234),
    ([0xFE, 0x8E, 0x41, 0x30], .divInd 0x30 0x41),
    ([0xFE, 0x8F, 0x50, 0x7F, 0x30], .divIdx 0x30 0x50 (.byte 0x7F)),
    ([0xFE, 0x9C, 0x22, 0x30], .divbDir 0x30 0x22),
    ([0xFE, 0x9D, 0xA5, 0x30], .divbImm 0x30 0xA5),
    ([0xFE, 0x9E, 0x41, 0x30], .divbInd 0x30 0x41),
    ([0xFE, 0x9F, 0x50, 0x7F, 0x30], .divbIdx 0x30 0x50 (.byte 0x7F))] = true := by decide
/-! ## Decoding: what is no instruction -/

/-- The illegal encodings of spec/30_encoding.md R91. -/
theorem test_unknown_opcodes :
    ([[0x10, 0x30, 0x32], [0xE5], [0xEE, 1, 2], [0xFE, 0x44], [0xFE, 0xFE]] : List (List Byte)).map
      (decode defaultParams) = [.unknown 0x10, .unknown 0xE5, .unknown 0xEE, .unknown 0xFE,
        .unknown 0xFE] := by decide

/-- Words as spec/opcode_table.json numbers their bits, operand bytes of zeros above `nbits`. -/
theorem test_table_words :
    [decodeTableWord 8 0x0B, decodeTableWord 16 0x64FE, decodeTableWord 16 0x6CFE,
      decodeTableWord 24 0x302264, decodeTableWord 8 0xFD] =
    [some (.xchIdx 0 0 (.byte 0)), none, some (.mulDir 0 0), some (.addDir 0x30 0x22),
      some .nop] := by decide

/-- The next step runs exactly the word that `withFetchWord` places. -/
theorem test_withFetchWord :
    valuesOf (State.reset.withFetchWord 24 0x302264) = some [.reg 0x30, .reg 0x22] := by decide

/-! ## Single evaluations (spec/95_test_vectors.md, section 1) -/

/-- W1. -/
theorem test_W1_head : headOf (onPorts 0x2007 [0x67, 0x31, 0x10, 0x00, 0x40]) =
    some ("ADD", .longIndexed, 5) := by decide
theorem test_W1_values : valuesOf (onPorts 0x2007 [0x67, 0x31, 0x10, 0x00, 0x40]) =
    some [.reg 0x40, .lidx 0x30 0x0010] := by decide

/-- W4 (spec/90_conflicts.md C2). -/
theorem test_W4_offsets :
    [offset11 0x00 0x00, offset11 0x03 0xFF, offset11 0x04 0x00, offset11 0x07 0xFF] =
      [0, 1023, -1024, -1] := by decide

/-- W5a, W5b. -/
theorem test_W5a_deduplicates : targetsOf (onPorts 0x400 [0x44, 0x30, 0x30, 0x30]) =
    some ([0x30], [], []) := by decide
theorem test_W5b_deduplicates : targetsOf (onPorts 0x400 [0x44, 0x30, 0x32, 0x30]) =
    some ([0x30, 0x32], [], []) := by decide

/-- W6. -/
theorem test_W6_signed : headOf (onPorts 0x100 [0xFE, 0x4C, 0x30, 0x32, 0x34]) =
    some ("SGN MUL", .direct, 5) := by decide

/-- W7. -/
theorem test_W7_unknown : outcome (onPorts 0x100 [0x10, 0x30, 0x32]) =
    some (.unknownOpcode 1 [0x10]) := by decide

/-- W8. -/
theorem test_W8_short_jump : targetsOf (onPorts 0x100 [0x20, 0x05]) =
    some ([], [], [0x107]) := by decide

/-- W9. -/
theorem test_W9_line : lineOf (onPorts 0 [0xC8, 0x10]) = some "PUSH R_10" := by decide

/-- V1.17, V1.18: a target below zero or above 0xFFFF is not wrapped. -/
theorem test_V1_17_negative_target : targetsOf (onPorts 0 [0x24, 0x00]) =
    some ([], [], [-0x3FE]) := by decide
theorem test_V1_18_high_target : targetsOf (onPorts 0xFFFF [0x23, 0xFF]) =
    some ([], [], [0x10400]) := by decide

/-- V3.2, V6.7, V5.14: values other than registers. -/
theorem test_V3_2_bit_test : lineOf (onPorts 0x300 [0x37, 0x24, 0x80]) =
    some "JBC R_24, 7, 0x0283" := by decide
theorem test_V6_7_tijmp : lineOf (onPorts 0x700 [0xE2, 0x31, 0x0F, 0x34]) =
    some "TIJMP R_34, #0x0F, [R_30]" := by decide
theorem test_V5_14_idlpd : targetsOf (onPorts 0x600 [0xF6, 0x5A]) = some ([], [], []) := by decide

/-- V6.4, V6.5, V6.6: the branch through a pointer. -/
theorem test_V6_4_br : headOf (onPorts 0x700 [0xE3, 0x40]) = some ("BR", .indirect, 2) := by decide
theorem test_V6_5_ebr : headOf (onPorts 0x700 [0xE3, 0x41]) =
    some ("EBR", .extendedIndirect, 2) := by decide
theorem test_V6_6_threshold : targetsOf (onPorts 0x700 [0xE3, 0x02]) =
    some ([], [], [0x02]) := by decide

/-- V5.17, V5.18, V6.10, V12.4: the 21-bit mask, and its other mask point. -/
theorem test_V5_17_mask : targetsOf (onPorts 0x600 [0xF1, 0x00, 0x00, 0x80]) =
    some ([], [0x604], []) := by decide
theorem test_V5_18_mask : targetsOf (onPorts 0x1FFFF8 [0xF1, 0x10, 0x00, 0x00]) =
    some ([], [0x0C], []) := by decide
theorem test_V6_10_mask : targetsOf (onPorts 0x1FFFF7 [0xE6, 0xF9, 0xFF, 0xFF]) =
    some ([], [], [0x1FFFF4]) := by decide
theorem test_V12_4_displacement :
    targetsOf (onPortsOf displacementParams 0x1FFFF8 [0xF1, 0x10, 0x00, 0x00]) =
      some ([], [0x20000C], []) := by decide

/-- V8.5, V8.6, V8.9, V8.10, V8.14: the low group's walk. -/
theorem test_V8_5_count : lineOf (onPorts 0x900 [0x08, 0x0F, 0x30]) =
    some "SHRW R_30, #0x0F" := by decide
theorem test_V8_6_count_register : lineOf (onPorts 0x900 [0x08, 0x10, 0x30]) =
    some "SHRW R_30, R_10" := by decide
theorem test_V8_9_short_exchange : valuesOf (onPorts 0x900 [0x0B, 0x30, 0x10, 0x40]) =
    some [.reg 0x40, .reg 0x10] := by decide
theorem test_V8_10_long_exchange : valuesOf (onPorts 0x900 [0x0B, 0x31, 0x10, 0x00, 0x40]) =
    some [.reg 0x40, .imm8 0x00] := by decide
theorem test_V8_14_est : targetsOf (onPorts 0x900 [0x1C, 0x21, 0x3E]) =
    some ([0x3E, 0x21], [], []) := by decide

/-- V8.20, V10.15, V10.16: truncated windows. -/
theorem test_V8_20_truncated : outcome (onPorts 0x900 [0x0B, 0x31, 0x10]) =
    some (.truncated 5) := by decide
theorem test_V10_15_truncated : outcome (onPorts 0xB00 [0xFE, 0x4F]) =
    some (.truncated 3) := by decide
theorem test_V10_16_truncated : outcome (onPorts 0xB00 [0xFE, 0x4F, 0x31, 0x10, 0x00, 0x32]) =
    some (.truncated 7) := by decide

/-- An ill-formed term (a byte offset under a base that selects two): the resolver is unhandled. -/
theorem test_illformed_term_unchecked :
    (match exec (.addIdx 0x30 0x51 (.byte 0x10)) State.reset with
      | .next t => t.out.status == 0 && (match t.out with | .ok r => !r.checked | _ => false)
      | _ => false) = true := by decide

/-- The same for XCH, where the walk asks only for L of at least n: handled, and the byte length is
not that of the raw bytes (assumption log, entry 11). -/
theorem test_illformed_exchange_checked :
    (match exec (.xchIdx 0x40 0x31 (.byte 0x10)) State.reset with
      | .next t => (match t.out with
        | .ok r => r.checked && r.byteLength == 5 && r.raw.length == 4
        | _ => false)
      | _ => false) = true := by decide

/-! ## The display form and the register-name service (spec/40_resolution.md R140-R150) -/

/-- A service that names a register, a pointer, a constant and two targets. -/
def namingParams : Params := { defaultParams with regNames := [⟨"R_%02X", 0x18, "SP"⟩,
  ⟨"[R_%02X", 0x18, "[SP"⟩, ⟨"#0x%02X", 0xFF, "#ALL"⟩, ⟨"0x%04X", 0x107, "main"⟩,
  ⟨"0x%X", 0x2080, "start"⟩] }

/-- ELM's templates and examples of R140: plain formatting. -/
theorem test_printf_templates :
    [printf "R_%02X" 4, printf "[R_%02X" 0x10, printf "#0x%02X" 0x12, printf "0x%06X" 0xFF12,
      printf "0x%X" 0x2080, printf "%d" 7, printf "<%5x>" 0xAB] =
    ["R_04", "[R_10", "#0x12", "0x00FF12", "0x2080", "7", "<   ab>"] := by decide

/-- R150: any template and any integer may be substituted, and the rest is plain. -/
theorem test_regName_substitutes :
    [regName namingParams "0x%X" 0x2080, regName namingParams "0x%X" 0x2081,
      regName namingParams "R_%02X" 0x18, regName namingParams "R_%02X" 0x19] =
    ["start", "0x2081", "SP", "R_19"] := by decide

/-- R141, R142, R143, R146: the strings go through the service. -/
theorem test_display_through_service :
    [OperandVal.reg 0x18, .imm8 0xFF, .indInc 0x18, .sidx 0x18 0x10, .cadd 0x107, .cadd (-0x3FE),
      .eidx 0x20 0x00FF12].map (OperandVal.display namingParams) =
    ["SP", "#ALL", "[SP]+", "[SP+0x10]", "main", "-0x03FE", "[R_20+0x00FF12]"] := by decide

/-- R151: an edge under a template of the caller's. -/
theorem test_edge_format : Edge.format "0x%X" ⟨0x100, 0x107, "SJMP"⟩ = "0x107" := by decide

/-! ## Table well-formedness (spec/70_reset_and_hazards.md R402) -/

/-- A direct template with a bit index at 0x64 has one operand byte too few; the bit-test template at
0x30 has not. -/
theorem test_templateWf_bit_index :
    templateWf defaultParams false 0x64 ⟨"X", 2, [⟨"reg", .reg, .B, [.reg]⟩,
      ⟨"bitno", .bitno, .N, [.bitno]⟩], .direct, false, false, false, ""⟩ = false ∧
    templateWf defaultParams false 0x30 (instrRow (.jbc 0 0 0)).t = true := by decide

/-- A signed indexed template of length 6 fits seven bytes only where its long form is not reachable:
at an even opcode under `literal`. -/
theorem test_templateWf_reachable_modes :
    let t : Template := ⟨"X", 6, [⟨"dst", .reg, .W, [.reg]⟩], .indexed, true, false, false, ""⟩
    templateWf literalParams true 0x6E t = true ∧ templateWf literalParams true 0x6F t = false ∧
      templateWf defaultParams true 0x6E t = false := by decide

/-! ## Witnesses: a state and operands that meet each obligation's hypotheses -/

theorem witness_StepRunsDecodedInstruction :
    (onPorts 0 [0x64, 0x22, 0x30]).portsFit = true ∧
      decode (onPorts 0 [0x64, 0x22, 0x30]).cfg (onPorts 0 [0x64, 0x22, 0x30]).window =
        .instr (.addDir 0x30 0x22) := by decide

theorem witness_StepReportsOtherOutcomes_truncated :
    (onPorts 0 [0x64, 0x22]).portsFit = true ∧
      decode (onPorts 0 [0x64, 0x22]).cfg (onPorts 0 [0x64, 0x22]).window = .truncated 3 := by
  decide
theorem witness_StepReportsOtherOutcomes_unknown :
    (onPorts 0 [0xE5]).portsFit = true ∧
      decode (onPorts 0 [0xE5]).cfg (onPorts 0 [0xE5]).window = .unknown 0xE5 := by decide
theorem witness_StepReportsOtherOutcomes_noInput :
    { State.reset with avail := 8 }.portsFit = false := by decide

/-- A window holding ADD, and the state after its evaluation. -/
def addState : State := onPorts 0x2000 [0x64, 0x22, 0x30, 0xFF, 0xFF, 0xFF, 0xFF]

theorem witness_StepKeepsInvariant_inv : (after addState).Inv := by
  refine ⟨⟨rfl, rfl⟩, rfl, ?_⟩
  show Record.wf _ _ ∧ _ ∧ _ ∧ _ ∧ _
  decide
theorem witness_StepKeepsInvariant_step :
    step (after addState) = .next (after addState) := rfl

theorem witness_EveryEvaluationAnswersConsistently :
    hasDefaultTables addState.cfg ∧ addState.portsFit = true := ⟨⟨rfl, rfl⟩, rfl⟩

theorem witness_StepChangesOutputOnly : step addState = .next (after addState) := rfl

/-- Two windows that differ beyond `avail`. -/
theorem witness_OutputIsFunctionOfValidInputs :
    let s := onPorts 5 [0x64, 0x22, 0x30]
    let s' := { s with win := [0x64, 0x22, 0x30, 9, 9, 9, 9], out := .unknownOpcode 1 [7] }
    s.cfg = s'.cfg ∧ s.addr = s'.addr ∧ s.avail = s'.avail ∧
      s.win.take s.avail = s'.win.take s'.avail ∧ s.win ≠ s'.win ∧
      step s = .next (after s) ∧ step s' = .next (after s') := by
  exact ⟨rfl, rfl, rfl, rfl, by decide, rfl, rfl⟩

theorem witness_FullWindowIsNeverTruncated :
    hasDefaultTables addState.cfg ∧ addState.portsFit = true ∧ 7 ≤ addState.avail ∧
      step addState = .next (after addState) := ⟨⟨rfl, rfl⟩, rfl, by decide, rfl⟩

theorem witness_StepIsReferenceDecoder : addState.portsFit = true := rfl

/-- An unsigned and a signed instruction. -/
theorem witness_DecodeOfEncode :
    (Instr.wf defaultParams (.addIdx 0x30 0x51 (.word 0x1234)) = true ∧
      (Instr.addIdx 0x30 0x51 (.word 0x1234)).inTables defaultParams) ∧
    (Instr.wf defaultParams (.mulIdx 0x30 0x50 (.byte 0x12)) = true ∧
      (Instr.mulIdx 0x30 0x50 (.byte 0x12)).inTables defaultParams) :=
  ⟨⟨rfl, rfl, by decide⟩, rfl, rfl, by decide⟩

theorem witness_EncodeOfDecode :
    decode defaultParams [0xFE, 0x6F, 0x50, 0x12, 0x30, 0x99] =
      .instr (.mulIdx 0x30 0x50 (.byte 0x12)) := by decide

/-- The longest instruction, and the shortest. -/
theorem witness_FinalByteLength_classify :
    classify defaultParams [0xFE, 0x4F, 0x51, 0x34, 0x12, 0x32, 0x30] =
        .fetched (fetchedOf (.mul3Idx 0x30 0x32 0x51 (.word 0x1234))) ∧
      classify defaultParams [0xF0, 0x11] = .fetched (fetchedOf .ret) ∧
      hasDefaultTables defaultParams := ⟨rfl, rfl, rfl, rfl⟩
theorem witness_FinalByteLength_exec :
    State.reset.cfg.signedModeByte = .operand ∧ bit0 (0x51 : Byte) = true := by decide

theorem witness_OutcomePriority_unknown :
    lookupTemplate defaultParams false 0x10 = none ∧
      (0x10 : Byte) ≠ defaultParams.signedPrefix := by decide
theorem witness_OutcomePriority_signed_unknown :
    lookupTemplate defaultParams true 0x44 = none ∧
      (0xFE : Byte) = defaultParams.signedPrefix := by decide
/-- 0x67 needs its mode byte `win[1]`; one byte is there. -/
theorem witness_OutcomePriority_mode_byte :
    lookupTemplate defaultParams false 0x67 = some (instrRow (.addIdx 0 0 (.byte 0))).t ∧
      needsModeByte (instrRow (.addIdx 0 0 (.byte 0))).t = true ∧
      ([0x67] : List Byte).length ≤ modeByteIndex defaultParams false := ⟨rfl, rfl, by decide⟩
/-- A signed opcode with its mode byte `win[2]` there, at the boundary of its length, 6. -/
theorem witness_OutcomePriority_length :
    lookupTemplate defaultParams true 0x6F = some (instrRow (.mulIdx 0 0 (.byte 0))).t ∧
      ¬ (needsModeByte (instrRow (.mulIdx 0 0 (.byte 0))).t = true ∧
        ([0xFE, 0x6F, 0x51, 0x34, 0x12] : List Byte).length ≤ modeByteIndex defaultParams true) ∧
      finalLength (instrRow (.mulIdx 0 0 (.byte 0))).t true
        (modeBitOf defaultParams (instrRow (.mulIdx 0 0 (.byte 0))).t true
          [0xFE, 0x6F, 0x51, 0x34, 0x12]) = 6 ∧
      ([0xFE, 0x6F, 0x51, 0x34, 0x12] : List Byte).length < 6 ∧
      6 ≤ ([0xFE, 0x6F, 0x51, 0x34, 0x12, 0x30] : List Byte).length := ⟨rfl, by decide⟩

/-- Two windows that agree on three bytes alone. -/
theorem witness_LengthFromThreeBytes :
    ([0x67, 0x31, 0x10, 0x00, 0x40] : List Byte).take 3 = [0x67, 0x31, 0x10, 0xAB, 0xCD, 0x01].take 3 ∧
      classify defaultParams [0x67, 0x31, 0x10, 0x00, 0x40] =
        .fetched (fetchedOf (.addIdx 0x40 0x31 (.word 0x0010))) ∧
      classify defaultParams [0x67, 0x31, 0x10, 0xAB, 0xCD, 0x01] =
        .fetched (fetchedOf (.addIdx 0xCD 0x31 (.word 0xAB10))) := ⟨rfl, rfl, rfl⟩

/-- Need 5 with three bytes: one more is still too few, two more suffice; and need 2 that becomes
need 5. -/
theorem witness_TruncatedNeed :
    decode defaultParams [0x67, 0x31, 0x10] = .truncated 5 ∧
      ([0x67, 0x31, 0x10] : List Byte).length + ([0x00] : List Byte).length < 5 ∧
      5 ≤ ([0x67, 0x31, 0x10] : List Byte).length + ([0x00, 0x40] : List Byte).length := by decide
theorem witness_TruncatedNeed_again :
    decode defaultParams [0x67] = .truncated 2 ∧
      2 ≤ ([0x67] : List Byte).length + ([0x31] : List Byte).length ∧
      decode defaultParams ([0x67] ++ [0x31]) = .truncated 5 := by decide

theorem witness_DefaultTablesWellFormed :
    (lookupTemplate defaultParams true 0x4C).isSome = true := by decide

/-- An evaluation with nothing emitted, for ADD. -/
def freshAdd : Eval := ⟨initRecord 0x2000 (fetchedOf (.addDir 0x30 0x22)), []⟩

/-- The threshold's boundary: 3 is emitted, 2 is not, and 3 is not emitted again. -/
theorem witness_CrossReferenceEmission_emits :
    defaultParams.xrefThreshold < (3 : Byte).toNat ∧ (3 : Byte).toNat ∉ freshAdd.seen := by decide
theorem witness_CrossReferenceEmission_filters :
    ¬ (defaultParams.xrefThreshold < (2 : Byte).toNat ∧ (2 : Byte).toNat ∉ freshAdd.seen) ∧
      ¬ (defaultParams.xrefThreshold < (3 : Byte).toNat ∧
        (3 : Byte).toNat ∉ (freshAdd.xref defaultParams 3).seen) ∧ (2 : Byte).toNat ≤ 2 := by decide
theorem witness_CrossReferenceEmission_record :
    (fetchedOf (.addDir 0x30 0x22)).t.ops ≠ [] ∧
      (resolveDirect defaultParams (fetchedOf (.addDir 0x30 0x22)) freshAdd).isSome = true := by
  decide

theorem witness_ExtendedTargetMask :
    defaultParams.extAddrMask = 0x1FFFFF ∧ defaultParams.extMaskPoint = .target ∧
      displacementParams.extAddrMask = 0x1FFFFF ∧
      displacementParams.extMaskPoint = .displacement := by decide

theorem witness_PlainRegisterWalk :
    2 ≤ (fetchedOf (.addDir 0x30 0x22)).n ∧ 2 ≤ (fetchedOf (.addDir 0x30 0x22)).L := by decide

theorem witness_DirectResolver :
    (fetchedOf (.addDir 0x30 0x22)).L = (fetchedOf (.addDir 0x30 0x22)).n ∧
      (fetchedWith (.addDir 0x30 0x22) [0x30]).L ≠ (fetchedWith (.addDir 0x30 0x22) [0x30]).n := by
  decide

/-- Widths 1, 2 and 3. -/
theorem witness_ImmediateResolver :
    1 ≤ (fetchedOf (.andbImm 0x30 0x12)).n ∧
      (1 : Int) = (fetchedOf (.andbImm 0x30 0x12)).L - ((fetchedOf (.andbImm 0x30 0x12)).n - 1 : Int) ∧
      (2 : Int) = (fetchedOf (.andImm 0x30 0x1234)).L -
        ((fetchedOf (.andImm 0x30 0x1234)).n - 1 : Int) ∧
      (3 : Int) = (fetchedWith (.andImm 0x30 0x1234) [1, 2, 3, 4]).L -
        ((fetchedWith (.andImm 0x30 0x1234) [1, 2, 3, 4]).n - 1 : Int) := by decide

/-- One template, 1 to 5 operand bytes: every clause's length and its neighbours. -/
theorem witness_PointerAndIndexResolvers :
    let f := fetchedWith (.addInd 0x30 0x40)
    1 ≤ (f [0x40, 0x30]).n ∧ (f [0x40, 0x30]).L = (f [0x40, 0x30]).n ∧
      (f [0x40, 1, 0x30]).L = (f [0x40, 1, 0x30]).n + 1 ∧
      (f [0x40, 1, 2, 0x30]).L = (f [0x40, 1, 2, 0x30]).n + 2 ∧
      (f [0x40, 1, 2, 3, 0x30]).L = (f [0x40, 1, 2, 3, 0x30]).n + 3 ∧
      (f [0x40]).L ≠ (f [0x40]).n ∧ (f [0x40]).L ≠ (f [0x40]).n + 1 ∧
      (f [0x40]).L ≠ (f [0x40]).n + 2 ∧ (f [0x40]).L ≠ (f [0x40]).n + 3 := by decide

/-- TIJMP has the three accepted roles; JBC's roles are not accepted. -/
theorem witness_FixedResolver :
    ((fetchedOf (.tijmp 0x36 0x7E 0x45)).L = (fetchedOf (.tijmp 0x36 0x7E 0x45)).n ∧
      ∀ d ∈ (fetchedOf (.tijmp 0x36 0x7E 0x45)).t.ops,
        d.role = .reg ∨ d.role = .imm8 ∨ d.role = .ind) ∧
    ¬ ((fetchedWith (.jbc 0 0 0) [1, 2, 3]).L = (fetchedWith (.jbc 0 0 0) [1, 2, 3]).n ∧
      ∀ d ∈ (fetchedWith (.jbc 0 0 0) [1, 2, 3]).t.ops,
        d.role = .reg ∨ d.role = .imm8 ∨ d.role = .ind) := by decide

/-- The boundary of the reinterpretation, 0x0F and 0x10, and a missing operand byte. -/
theorem witness_LowGroupWalk :
    let f := fetchedWith (.shrw 0x30 0)
    1 ≤ (f [0x0F, 0x30]).n ∧ (f [0x0F, 0x30]).n ≤ (f [0x0F, 0x30]).L ∧
      (f [0x0F, 0x30]).opcode.getLsbD 3 = true ∧
      ((f [0x0F, 0x30]).op ((f [0x0F, 0x30]).L - (f [0x0F, 0x30]).n)).toNat < 0x10 ∧
      ¬ ((f [0x10, 0x30]).op ((f [0x10, 0x30]).L - (f [0x10, 0x30]).n)).toNat < 0x10 ∧
      (f [0x30]).L < (f [0x30]).n := by decide

/-- Handled, and unhandled for want of an operand byte. -/
theorem witness_CheckedOnlyWhenHandled :
    (resolveDirect defaultParams (fetchedOf (.addDir 0x30 0x22)) freshAdd).isSome = true ∧
      (fetchedOf (.addDir 0x30 0x22)).t.ops ≠ [] ∧
      resolveDirect defaultParams (fetchedWith (.addDir 0x30 0x22) [0x30])
        ⟨initRecord 0 (fetchedWith (.addDir 0x30 0x22) [0x30]), []⟩ = none := by decide
theorem witness_CheckedOnlyWhenHandled_step :
    hasDefaultTables addState.cfg ∧ step addState = .next (after addState) ∧
      (recordOf addState).isSome = true := ⟨⟨rfl, rfl⟩, rfl, rfl⟩

theorem witness_ModeRefinement :
    ((instrRow (.addIdx 0 0 (.byte 0))).t.mode = .indexed ∧
      (instrRow (.addIdx 0 0 (.byte 0))).t.variableLength = true) ∧
    (instrRow (.addInd 0 0)).t.mode = .indirect ∧
    ((instrRow (.addDir 0 0)).t.mode ≠ .indirect ∧
      ¬ ((instrRow (.addDir 0 0)).t.mode = .indexed ∧
        (instrRow (.addDir 0 0)).t.variableLength = true)) := by decide

/-- A signed record, an unsigned record, and the prefix before a byte without signed template. -/
theorem witness_SignedFlag :
    (recordOf (onPorts 0 [0xFE, 0x6C, 0x22, 0x30])).map Record.signedFlag = some true ∧
      (recordOf addState).map Record.signedFlag = some false ∧
      (onPorts 0 [0xFE, 0x44]).portsFit = true ∧
      (onPorts 0 [0xFE, 0x44]).window = (onPorts 0 [0xFE, 0x44]).cfg.signedPrefix :: 0x44 :: [] ∧
      lookupTemplate (onPorts 0 [0xFE, 0x44]).cfg true 0x44 = none := by decide

theorem witness_SignedTwins : State.reset.cfg.signedModeByte = .operand := rfl

/-- One state that answers a next state, one that faults. -/
theorem witness_RegisterNamesNeverReachTheDecode :
    step addState = .next (after addState) ∧
      step { addState with avail := 8 } = .fault .inputWidth := ⟨rfl, rfl⟩

/-- Both values of bit 0, for BranchIndirect, IndexedExchange, CxIndexed and MiddleIndexed. -/
theorem witness_mode_bit : bit0 (0x40 : Byte) = false ∧ bit0 (0x41 : Byte) = true ∧
    bit0 (0x00 : Byte) = false ∧ bit0 (0xFF : Byte) = true := by decide

/-- SignedIndexed under both values of SIGNED_MODE_BYTE. -/
theorem witness_SignedIndexed :
    signedIsLong defaultParams 0x50 = false ∧ signedIsLong defaultParams 0x51 = true ∧
      signedIsLong literalParams 0x50 = true := by decide

end Sys2Proof.Tests
end

section
/-! SUPPORT. What one evaluation changes and what it depends on (spec/00_scope.md). A step changes
the output port alone. Every instruction's meaning is the shared meaning of its row by a resolver
that reads no register name, so a step depends on the configuration up to the register names, on the
address and on the valid bytes: the relation `SameInputs`. -/

namespace Sys2Proof

/-- The parameters with another register-name service (spec/00_scope.md R8). -/
def Params.withNames (p : Params) (names : List RegName) : Params :=
  { p with regNames := names }

namespace Machine

variable {s s' t : State}

/-! ## One equation per case of a step -/

theorem step_unfit (hfit : s.portsFit = false) : step s = .fault .inputWidth := by
  simp [step, hfit]

theorem step_truncated {need : Nat} (hfit : s.portsFit = true)
    (hd : decode s.cfg s.window = .truncated need) : step s = .next (s.raiseTruncated need) := by
  simp [step, hfit, hd]

theorem step_unknown {first : Byte} (hfit : s.portsFit = true)
    (hd : decode s.cfg s.window = .unknown first) : step s = .next (s.raiseUnknown first) := by
  simp [step, hfit, hd]

theorem step_instr {i : Instr} (hfit : s.portsFit = true)
    (hd : decode s.cfg s.window = .instr i) : step s = exec i s := by
  simp [step, hfit, hd]

theorem step_foreign {f : Fetched} (hfit : s.portsFit = true)
    (hd : decode s.cfg s.window = .foreign f) : step s = .next (s.decodeForeign f) := by
  simp [step, hfit, hd]

/-! ## What a step changes -/

/-- On ports that hold an input, a step puts an outcome on the output port and does nothing else
(spec/60_exceptions.md R386). -/
theorem step_emits (hfit : s.portsFit = true) : ∃ o, step s = .next (s.emit o) := by
  cases hd : decode s.cfg s.window with
  | truncated need => exact ⟨_, step_truncated hfit hd⟩
  | unknown first => exact ⟨_, step_unknown hfit hd⟩
  | instr i =>
    obtain ⟨r, hr⟩ := exec_emits i s
    exact ⟨_, (step_instr hfit hd).trans hr⟩
  | foreign f => exact ⟨_, step_foreign hfit hd⟩

/-- A step faults exactly on ports that hold no input of the decoder (assumption log, entry 4). -/
theorem step_fault_iff {x : Fault} : step s = .fault x ↔ s.portsFit = false := by
  cases x
  refine ⟨fun h => ?_, step_unfit⟩
  by_contra hfit
  obtain ⟨o, ho⟩ := step_emits (Bool.eq_true_of_not_eq_false hfit)
  cases ho.symm.trans h

/-- A next state comes from ports that hold an input, and is the old state with its outcome on the
output port. -/
theorem step_next (h : step s = .next t) : s.portsFit = true ∧ t = s.emit t.out := by
  cases hfit : s.portsFit with
  | false => cases (step_unfit hfit).symm.trans h
  | true =>
    obtain ⟨o, ho⟩ := step_emits hfit
    cases ho.symm.trans h
    exact ⟨rfl, rfl⟩

/-! ## No part of a decode reads a register name -/

/-- A resolver that gives the same evaluation under every register-name service
(spec/40_resolution.md R150). -/
def IgnoresNames (res : Resolver) : Prop :=
  ∀ p names f e, res (p.withNames names) f e = res p f e

theorem groupResolver_ignoresNames (g : Group) : IgnoresNames (groupResolver g) := by
  cases g <;> exact fun _ _ _ _ => rfl

/-- Every instruction's meaning is the shared meaning of its row, by a resolver that reads no
register name. -/
theorem exec_eq_runRow (i : Instr) : ∃ res, (∀ s, exec i s =
      runRow s (instrRow i).t (instrRow i).signed (instrRow i).opcode (operandBytes i) res) ∧
    IgnoresNames res := by
  cases i <;> exact ⟨_, fun _ => rfl, fun _ _ _ _ => rfl⟩

theorem decode_withNames (p : Params) (names : List RegName) (bytes : List Byte) :
    decode (p.withNames names) bytes = decode p bytes := rfl

theorem Fetched.ofRow_withNames (p : Params) (names : List RegName) (t : Template) (signed : Bool)
    (opcode : Byte) (ops : List Byte) :
    Fetched.ofRow (p.withNames names) t signed opcode ops = Fetched.ofRow p t signed opcode ops :=
  rfl

theorem decodeRecord_withNames {res : Resolver} (hres : IgnoresNames res) (p : Params)
    (names : List RegName) (addr : Nat) (f : Fetched) :
    decodeRecord (p.withNames names) addr f res = decodeRecord p addr f res := by
  simp only [decodeRecord, hres p names]

/-! ## What a step depends on -/

/-- The second state presents the first one's input to the decoder: the same configuration but for
the register names, the same address, the same valid bytes. The bytes at or beyond `avail` and the
output port are free (spec/10_state.md R20, R24; spec/20_memory.md R50). -/
structure SameInputs (s s' : State) : Prop where
  cfg    : s'.cfg = s.cfg.withNames s'.cfg.regNames
  addr   : s'.addr = s.addr
  window : s'.window = s.window

theorem SameInputs.decode_eq (hin : SameInputs s s') :
    decode s'.cfg s'.window = decode s.cfg s.window := by
  rw [hin.window, hin.cfg, decode_withNames]

theorem SameInputs.decodeRecord_eq (hin : SameInputs s s') {res : Resolver}
    (hres : IgnoresNames res) (f : Fetched) :
    decodeRecord s'.cfg s'.addr f res = decodeRecord s.cfg s.addr f res := by
  rw [hin.addr, hin.cfg, decodeRecord_withNames hres]

theorem SameInputs.ofRow_eq (hin : SameInputs s s') (t : Template) (signed : Bool) (opcode : Byte)
    (ops : List Byte) :
    Fetched.ofRow s'.cfg t signed opcode ops = Fetched.ofRow s.cfg t signed opcode ops := by
  rw [hin.cfg, Fetched.ofRow_withNames]

/-- An instruction puts the same record on the output port of every state that presents the same
input. -/
theorem exec_sameInputs (hin : SameInputs s s') {i : Instr} (h : exec i s = .next t) :
    exec i s' = .next (s'.emit t.out) := by
  obtain ⟨res, hexec, hres⟩ := exec_eq_runRow i
  rw [hexec, runRow] at h
  cases h
  rw [hexec, runRow, hin.ofRow_eq, hin.decodeRecord_eq hres]
  rfl

/-- A step puts the same outcome on the output port of every state that presents the same input. -/
theorem step_sameInputs (hin : SameInputs s s') (hfit' : s'.portsFit = true)
    (h : step s = .next t) : step s' = .next (s'.emit t.out) := by
  obtain ⟨hfit, -⟩ := step_next h
  have hd' := hin.decode_eq
  cases hd : decode s.cfg s.window with
  | truncated need =>
    cases (step_truncated hfit hd).symm.trans h
    exact step_truncated hfit' (hd'.trans hd)
  | unknown first =>
    cases (step_unknown hfit hd).symm.trans h
    exact step_unknown hfit' (hd'.trans hd)
  | instr i =>
    rw [step_instr hfit' (hd'.trans hd)]
    exact exec_sameInputs hin ((step_instr hfit hd).symm.trans h)
  | foreign f =>
    cases (step_foreign hfit hd).symm.trans h
    rw [step_foreign hfit' (hd'.trans hd)]
    simp [State.decodeForeign, hin.decodeRecord_eq (groupResolver_ignoresNames _)]

/-! ## The statements -/

/-- Settles O7: a next state is the old one with an outcome on the output port. -/
theorem stepChangesOutputOnly : Obligations.StepChangesOutputOnly := by
  intro s t h
  obtain ⟨-, ht⟩ := step_next h
  rw [ht]
  exact ⟨rfl, rfl, rfl, rfl⟩

/-- Settles O8: the two states present the same input, even with the same register names. -/
theorem outputIsFunctionOfValidInputs : Obligations.OutputIsFunctionOfValidInputs := by
  intro s s' t t' hcfg haddr _ hwindow h h'
  have hin : SameInputs s s' := ⟨by rw [hcfg]; rfl, haddr.symm, hwindow.symm⟩
  obtain ⟨hfit', -⟩ := step_next h'
  cases (step_sameInputs hin hfit' h).symm.trans h'
  rfl

/-- Settles O58: a state with other register names presents the same input, and its ports fit
exactly when those of the state do. -/
theorem registerNamesNeverReachTheDecode : Obligations.RegisterNamesNeverReachTheDecode := by
  intro s names
  have hin : SameInputs s { s with cfg := s.cfg.withNames names } := ⟨rfl, rfl, rfl⟩
  constructor
  · intro t h
    obtain ⟨hfit, ht⟩ := step_next h
    have hstep := step_sameInputs hin hfit h
    rw [ht]
    exact hstep
  · intro x h
    have hunfit : s.portsFit = false := step_fault_iff.mp h
    exact step_fault_iff.mpr hunfit

/-- Settles O3: the window of reset is empty, so the step answers by check T0, with the outcome that
the output port already holds (spec/60_exceptions.md R382). -/
theorem resetConfiguration : Obligations.ResetConfiguration := by
  have hdecode : decode State.reset.cfg State.reset.window = .truncated 1 := rfl
  have hstep : step State.reset = .next State.reset := step_truncated rfl hdecode
  exact ⟨rfl, ⟨rfl, rfl⟩, rfl, rfl, rfl, rfl, rfl, rfl, rfl, rfl, rfl, hstep⟩

end Machine
end Sys2Proof
end

section
/-! SUPPORT. A step is the table-driven decoder: classification, then the steps of every template
with the resolver of the opcode's group (spec/30_encoding.md R71, R88). Every constructor's meaning
names a resolver of its own; here it is held to the group's, so that what holds of the ten group
resolvers holds of every record a step puts out. -/

namespace Sys2Proof
namespace Machine

variable {p : Params} {bytes : List Byte} {f : Fetched} {i : Instr} {s : State}

/-! ## Each constructor's resolver against its group's -/

theorem groupOf_shortJump : ∀ h : BitVec 3, groupOf (0x20 ||| h.setWidth 8) = .shortJump := by
  decide

theorem groupOf_shortCall : ∀ h : BitVec 3, groupOf (0x28 ||| h.setWidth 8) = .shortCall := by
  decide

theorem groupOf_bitClear : ∀ h : BitVec 3, groupOf (0x30 ||| h.setWidth 8) = .bitClear := by
  decide

theorem groupOf_bitSet : ∀ h : BitVec 3, groupOf (0x38 ||| h.setWidth 8) = .bitSet := by
  decide

/-- On a row's template and opcode the resolver gives the record that the group dispatch gives
(spec/30_encoding.md R88). -/
def AgreesWithGroup (row : Row) (res : Resolver) : Prop :=
  ∀ (p : Params) (addr : Nat) (modeBit : Bool) (raw : List Byte),
    let f : Fetched := ⟨row.t, row.signed, row.opcode, modeBit, raw⟩
    decodeRecord p addr f res = decodeRecord p addr f (groupResolver (groupOf row.opcode))

theorem agreesWithGroup_of_group {row : Row} {res : Resolver} (g : Group)
    (hg : groupOf row.opcode = g)
    (hres : ∀ p f e, f.opcode = row.opcode → res p f e = groupResolver g p f e) :
    AgreesWithGroup row res := by
  intro p addr modeBit raw f
  simp only [hg, decodeRecord, hres p f _ rfl]

/-- Every instruction's meaning is the shared meaning of its row, by a resolver that agrees with the
group of its opcode: by computation where the opcode byte is a constant, by the group of the opcodes
0x20-0x3F, which hold bits of an operand, and by the order of the tests in the 0xEx group. -/
theorem exec_eq_runRow_group (i : Instr) : ∃ res, (∀ s, exec i s =
      runRow s (instrRow i).t (instrRow i).signed (instrRow i).opcode (operandBytes i) res) ∧
    AgreesWithGroup (instrRow i) res := by
  cases i with
  | sjmp disp =>
    exact ⟨_, fun _ => rfl,
      agreesWithGroup_of_group .shortJump (groupOf_shortJump _) fun _ _ _ _ => rfl⟩
  | scall disp =>
    exact ⟨_, fun _ => rfl,
      agreesWithGroup_of_group .shortCall (groupOf_shortCall _) fun _ _ _ _ => rfl⟩
  | jbc bitno reg disp =>
    exact ⟨_, fun _ => rfl,
      agreesWithGroup_of_group .bitClear (groupOf_bitClear _) fun _ _ _ _ => rfl⟩
  | jbs bitno reg disp =>
    exact ⟨_, fun _ => rfl,
      agreesWithGroup_of_group .bitSet (groupOf_bitSet _) fun _ _ _ _ => rfl⟩
  | tijmp | ebmovi | eldEInd | eldEIdx | eldbEInd | eldbEIdx =>
    exact ⟨_, fun _ => rfl, agreesWithGroup_of_group .ex (by dsimp only [instrRow]; rfl)
      fun p f e h => by simp [groupResolver, resolveEx, h, instrRow]⟩
  | _ =>
    refine ⟨_, fun _ => rfl, ?_⟩
    dsimp only [instrRow]
    rintro p addr (_ | _) raw <;> rfl

/-! ## What was fetched -/

/-- A template whose length covers its opcode byte, and its mode byte where it has one. -/
def coversModeByte (t : Template) : Bool :=
  1 ≤ t.length && (!needsModeByte t || 2 ≤ t.length)

theorem instrRow_coversModeByte (i : Instr) : coversModeByte (instrRow i).t = true := by
  cases i <;> rfl

/-- What a fetched instruction has of the valid bytes (spec/30_encoding.md R70, R72-R86): they begin
with its opcode, behind SIGNED_PREFIX exactly when it is signed, and its `raw` is the front of them
of the final length. -/
structure FetchedFrom (p : Params) (bytes : List Byte) (f : Fetched) : Prop where
  lookup   : lookupTemplate p f.signed f.opcode = some f.t
  front    : ∃ rest, bytes = rowBytes p f.signed f.opcode rest
  unsigned : f.signed = false → f.opcode ≠ p.signedPrefix
  modeBit  : f.modeBit = modeBitOf p f.t f.signed bytes
  fits     : finalLength f.t f.signed f.modeBit ≤ bytes.length
  raw      : f.raw = bytes.take (finalLength f.t f.signed f.modeBit)

theorem fetchedFrom_of_classify (h : classify p bytes = .fetched f) : FetchedFrom p bytes f := by
  rcases classify_cases p bytes with
    ⟨-, hc⟩ | ⟨-, hc⟩ | ⟨b1, rest, hbytes, hc⟩ | ⟨b0, rest, hb0, hbytes, hc⟩
  · cases hc.symm.trans h
  · cases hc.symm.trans h
  · obtain ⟨hlookup, -, hfits, hf⟩ := classifyAt_fetched (hc.symm.trans h)
    rw [hf]
    exact ⟨hlookup, ⟨rest, hbytes⟩, nofun, rfl, hfits, rfl⟩
  · obtain ⟨hlookup, -, hfits, hf⟩ := classifyAt_fetched (hc.symm.trans h)
    rw [hf]
    exact ⟨hlookup, ⟨rest, hbytes⟩, fun _ => hb0, rfl, hfits, rfl⟩

/-- The front of a row's bytes that reaches past the opcode is a row's bytes again. -/
theorem take_rowBytes (signed : Bool) (opcode : Byte) (rest : List Byte) (n : Nat) :
    (rowBytes p signed opcode rest).take (n + 1 + signed.toNat) =
      rowBytes p signed opcode (rest.take n) := by
  cases signed <;> simp [rowBytes]

/-- The mode bit is read from the instruction's own bytes (spec/30_encoding.md R80). -/
theorem modeBitOf_take {t : Template} {signed : Bool} {n : Nat} (ht : coversModeByte t = true)
    (hn : t.length + signed.toNat ≤ n) :
    modeBitOf p t signed (bytes.take n) = modeBitOf p t signed bytes := by
  unfold modeBitOf
  cases hneeds : needsModeByte t with
  | false => rfl
  | true =>
    have hlen : 1 ≤ t.length ∧ 2 ≤ t.length := by simpa [coversModeByte, hneeds] using ht
    have hidx : modeByteIndex p signed < n := by
      cases signed <;> simp [modeByteIndex] at hn ⊢
      · omega
      · split <;> omega
    simp [List.getD_eq_getElem?_getD, hidx]

/-- A fetched instruction is its row's template over its own operand bytes. -/
theorem FetchedFrom.ofRow_eq (h : FetchedFrom p bytes f) (ht : coversModeByte f.t = true) :
    Fetched.ofRow p f.t f.signed f.opcode f.ops = f := by
  obtain ⟨rest, hrest⟩ := h.front
  have hlen : 1 ≤ f.t.length := by
    simp only [coversModeByte, Bool.and_eq_true, decide_eq_true_eq] at ht
    exact ht.1
  obtain ⟨n, hn⟩ : ∃ n, finalLength f.t f.signed f.modeBit = n + 1 + f.signed.toNat :=
    ⟨f.t.length - 1 + (isLongIndexed f.t f.modeBit).toNat, by unfold finalLength; omega⟩
  have hraw : rowBytes p f.signed f.opcode f.ops = f.raw := by
    have htake : f.raw = rowBytes p f.signed f.opcode (rest.take n) := by
      rw [h.raw, hn, hrest, take_rowBytes]
    rw [Fetched.ops, htake, Fetched.start]
    cases f.signed <;> rfl
  have hmode : modeBitOf p f.t f.signed f.raw = f.modeBit := by
    rw [h.modeBit, h.raw, modeBitOf_take ht (by unfold finalLength; omega)]
  unfold Fetched.ofRow
  rw [hraw, hmode]

/-! ## The step -/

/-- The record of an instruction as the table-driven decoder gives it. -/
theorem exec_of_decode {addr : Nat} (h : decode p bytes = .instr i) :
    ∃ f, classify p bytes = .fetched f ∧ ∀ s : State, s.cfg = p → s.addr = addr →
      exec i s = .next (s.emit (.ok
        (decodeRecord p addr f (groupResolver (groupOf f.opcode))))) := by
  obtain ⟨f, hclass, hbuild, ht⟩ := decode_instr h
  obtain ⟨hsigned, hopcode, hops⟩ := buildInstr_some hbuild
  obtain ⟨res, hexec, hagrees⟩ := exec_eq_runRow_group i
  have hrow : Fetched.ofRow p (instrRow i).t (instrRow i).signed (instrRow i).opcode
      (operandBytes i) = f := by
    rw [ht, hsigned, hopcode, hops]
    exact (fetchedFrom_of_classify hclass).ofRow_eq (ht ▸ instrRow_coversModeByte i)
  refine ⟨f, hclass, ?_⟩
  rintro s rfl rfl
  rw [hexec, runRow, hrow]
  have hf := hagrees s.cfg s.addr f.modeBit f.raw
  rw [ht, hsigned, hopcode] at hf
  exact congrArg (fun r => Host.Outcome.next (s.emit (.ok r))) hf

/-- A step puts on the output port what the table-driven decoder gives, under any parameters and
tables (spec/30_encoding.md R71, R88). -/
theorem step_eq_reference (hfit : s.portsFit = true) :
    step s = .next (s.emit (referenceOutput s.cfg s.addr s.window)) := by
  unfold referenceOutput
  cases hd : decode s.cfg s.window with
  | truncated need => rw [step_truncated hfit hd, decode_truncated hd]; rfl
  | unknown first => rw [step_unknown hfit hd, decode_unknown hd]; rfl
  | instr i =>
    obtain ⟨f, hclass, hexec⟩ := exec_of_decode hd
    rw [step_instr hfit hd, hclass]
    exact hexec s rfl rfl
  | foreign f => rw [step_foreign hfit hd, decode_foreign hd]; rfl

end Machine
end Sys2Proof
end

section
/-! SUPPORT. What a resolver keeps of the record it starts from, and what its edges are
(spec/10_state.md R30, R36; spec/40_resolution.md R121-R124, R149): one rule for each operation of
an evaluation, then one lemma for each resolver. -/

namespace Sys2Proof
namespace Machine

variable {p : Params} {f : Fetched} {r : Record} {e e' : Eval} {n : Nat}

/-! ## The invariant of an evaluation -/

/-- The evaluation has written operands, edges and, for the opcode 0xE3, mnemonic and mode into the
record `r`, and nothing else; its edges are its own, its cross-references are filtered and are the
ones in `seen`, and it has emitted `n` calls and jumps. -/
structure Eval.Writes (p : Params) (r : Record) (n : Nat) (e : Eval) : Prop where
  frame    : e.record = { r with
    mnemonic := e.record.mnemonic, mode := e.record.mode, operands := e.record.operands,
    xrefs := e.record.xrefs, calls := e.record.calls, jumps := e.record.jumps }
  own      : e.record.edgesOwn
  filtered : e.record.xrefsFiltered p
  seen     : e.record.xrefs.map Edge.target = e.seen.map Nat.cast
  count    : e.record.calls.length + e.record.jumps.length = n

/-- The initial record, before any operand (spec/10_state.md R36). -/
theorem Eval.Writes.start (hx : r.xrefs = []) (hc : r.calls = []) (hj : r.jumps = []) :
    Eval.Writes p r 0 ⟨r, []⟩ where
  frame := rfl
  own := by simp [Record.edgesOwn, hx, hc, hj]
  filtered := by simp [Record.xrefsFiltered, hx]
  seen := by simp [hx]
  count := by simp [hc, hj]

/-- An operand leaves every edge as it is. -/
theorem Eval.Writes.operand (h : e.Writes p r n) (name : String) (v : OperandVal) :
    (e.operand name v).Writes p r n where
  frame := by
    have hframe := h.frame
    simp only [Eval.operand]
    rw [hframe]
  own := h.own
  filtered := h.filtered
  seen := h.seen
  count := h.count

/-- XREF adds at most one cross-reference, above the threshold and new
(spec/40_resolution.md R121). -/
theorem Eval.Writes.xref (h : e.Writes p r n) (v : Byte) : (e.xref p v).Writes p r n := by
  rcases Eval.xref_cases p v e with ⟨habove, hnew, heq⟩ | ⟨-, heq⟩
  · have hnew' : (v.toNat : Int) ∉ e.record.xrefs.map Edge.target := by
      rw [h.seen]
      simpa using hnew
    rw [heq]
    refine ⟨?_, ?_, ⟨?_, ?_⟩, ?_, h.count⟩
    · have hframe := h.frame
      dsimp only
      rw [hframe]
    · intro x hx
      have hown := h.own x
      simp only [List.mem_append, List.mem_singleton] at hx hown
      rcases hx with ((hx | rfl) | hx) | hx
      · exact hown (.inl (.inl hx))
      · exact ⟨rfl, rfl⟩
      · exact hown (.inl (.inr hx))
      · exact hown (.inr hx)
    · intro x hx
      simp only [List.mem_append, List.mem_singleton] at hx
      rcases hx with hx | rfl
      · exact h.filtered.1 x hx
      · exact Int.ofNat_lt.mpr habove
    · rw [List.map_append]
      exact h.filtered.2.append (List.nodup_singleton _) (by simpa using hnew')
    · simp [h.seen]
  · exact heq.symm ▸ h

/-- CALL adds one edge (spec/40_resolution.md R122). -/
theorem Eval.Writes.call (h : e.Writes p r n) (t : Int) : (e.call t).Writes p r (n + 1) where
  frame := by
    have hframe := h.frame
    simp only [Eval.call]
    rw [hframe]
  own := by
    intro x hx
    have hown := h.own x
    simp only [Eval.call_xrefs, Eval.call_calls, Eval.call_jumps, List.mem_append,
      List.mem_singleton] at hx hown
    rcases hx with (hx | hx | rfl) | hx
    · exact hown (.inl (.inl hx))
    · exact hown (.inl (.inr hx))
    · exact ⟨rfl, rfl⟩
    · exact hown (.inr hx)
  filtered := h.filtered
  seen := h.seen
  count := by
    have hcount := h.count
    simp only [Eval.call_calls, Eval.call_jumps, List.length_append, List.length_singleton]
    omega

/-- JUMP adds one edge (spec/40_resolution.md R122). -/
theorem Eval.Writes.jump (h : e.Writes p r n) (t : Int) : (e.jump t).Writes p r (n + 1) where
  frame := by
    have hframe := h.frame
    simp only [Eval.jump]
    rw [hframe]
  own := by
    intro x hx
    have hown := h.own x
    simp only [Eval.jump_xrefs, Eval.jump_calls, Eval.jump_jumps, List.mem_append,
      List.mem_singleton] at hx hown
    rcases hx with (hx | hx) | hx | rfl
    · exact hown (.inl (.inl hx))
    · exact hown (.inl (.inr hx))
    · exact hown (.inr hx)
    · exact ⟨rfl, rfl⟩
  filtered := h.filtered
  seen := h.seen
  count := by
    have hcount := h.count
    simp only [Eval.jump_calls, Eval.jump_jumps, List.length_append, List.length_singleton]
    omega

/-- The 0xE3 rewrite, before any edge (spec/45_ex_group.md R233, spec/40_resolution.md R124). -/
theorem Eval.Writes.retag (h : e.Writes p r 0) (hseen : e.seen = []) (mnemonic : String)
    (mode : Mode) : (e.retag mnemonic mode).Writes p r 0 where
  frame := by
    have hframe := h.frame
    simp only [Eval.retag]
    rw [hframe]
  own := by
    obtain ⟨hc, hj⟩ := Nat.add_eq_zero_iff.mp h.count
    have hx : e.record.xrefs = [] := by simpa [hseen] using h.seen
    simp [Record.edgesOwn, hx, List.length_eq_zero_iff.mp hc, List.length_eq_zero_iff.mp hj]
  filtered := h.filtered
  seen := h.seen
  count := h.count

theorem Eval.Writes.regOperand (h : e.Writes p r n) (name : String) (b : Byte) :
    (e.regOperand p name b).Writes p r n :=
  (h.operand name _).xref b

theorem Eval.Writes.codeAddress (h : e.Writes p r n) (name : String) (disp : Int) :
    (e.codeAddress name disp).Writes p r n :=
  h.operand name _

/-! ## Every resolver keeps it -/

/-- A walk whose every step keeps it. -/
theorem Eval.Writes.foldl {α : Type} {g : Eval → α → Eval}
    (hg : ∀ e x, e.Writes p r n → (g e x).Writes p r n) (l : List α) (h : e.Writes p r n) :
    (l.foldl g e).Writes p r n := by
  induction l generalizing e with
  | nil => exact h
  | cons x l ih => exact ih (hg e x h)

theorem Eval.Writes.plain (h : e.Writes p r n) (c : Nat) : (plain p c f e).Writes p r n :=
  h.foldl (fun _ x hx => hx.regOperand x.1.name x.2) _

theorem Eval.Writes.plainThen (h : e.Writes p r n) (v : OperandVal) :
    (plainThen v p f e).Writes p r n :=
  (h.plain (f.n - 1)).operand f.lastName v

theorem Eval.Writes.fixedOperand (h : e.Writes p r n) (d : OperandDesc) (b : Byte) :
    (fixedOperand p d b e).Writes p r n := by
  unfold Machine.fixedOperand
  split
  · exact h.operand d.name _
  · exact h.operand d.name _
  all_goals exact h.regOperand d.name b

/-- Handled, the resolver writes operands and edges alone into the record it starts from, with at
most one call or jump (spec/40_resolution.md R125, R149). -/
def WritesEdges (res : Resolver) : Prop :=
  ∀ p f r e', Eval.Writes p r 0 ⟨r, []⟩ → res p f ⟨r, []⟩ = some e' → ∃ n ≤ 1, e'.Writes p r n

theorem WritesEdges.ite {c : Fetched → Prop} [DecidablePred c] {res res' : Resolver}
    (h : WritesEdges res) (h' : WritesEdges res') :
    WritesEdges (fun p f e => if c f then res p f e else res' p f e) := by
  intro p f r e' hr hres
  dsimp only at hres
  split at hres
  · exact h p f r e' hr hres
  · exact h' p f r e' hr hres

theorem resolveDirect_writes : WritesEdges resolveDirect := by
  intro p f r e' h hres
  obtain ⟨-, rfl⟩ := resolveDirect_some hres
  exact ⟨0, zero_le_one, h.plain _⟩

theorem resolveImmediate_writes : WritesEdges resolveImmediate := by
  intro p f r e' h hres
  rcases resolveImmediate_some hres with ⟨-, rfl⟩ | ⟨-, rfl⟩
  · exact ⟨0, zero_le_one, h.plainThen _⟩
  · exact ⟨0, zero_le_one, h.plainThen _⟩

theorem resolveIndirect_writes : WritesEdges resolveIndirect := by
  intro p f r e' h hres
  obtain ⟨-, rfl⟩ := resolveIndirect_some hres
  exact ⟨0, zero_le_one, h.plainThen _⟩

theorem resolveShortIndexed_writes : WritesEdges resolveShortIndexed := by
  intro p f r e' h hres
  obtain ⟨-, rfl⟩ := resolveShortIndexed_some hres
  exact ⟨0, zero_le_one, h.plainThen _⟩

theorem resolveLongIndexed_writes : WritesEdges resolveLongIndexed := by
  intro p f r e' h hres
  obtain ⟨-, rfl⟩ := resolveLongIndexed_some hres
  exact ⟨0, zero_le_one, h.plainThen _⟩

theorem resolveByMode_writes : WritesEdges resolveByMode := by
  intro p f r e' h hres
  unfold resolveByMode at hres
  split at hres
  · exact resolveDirect_writes p f r e' h hres
  · exact resolveImmediate_writes p f r e' h hres
  · exact resolveIndirect_writes p f r e' h hres
  · exact resolveIndirect_writes p f r e' h hres
  · exact resolveShortIndexed_writes p f r e' h hres
  · exact resolveShortIndexed_writes p f r e' h hres
  · exact resolveLongIndexed_writes p f r e' h hres
  all_goals cases hres

theorem resolveExtended_writes : WritesEdges resolveExtended := by
  intro p f r e' h hres
  unfold resolveExtended at hres
  split at hres
  · obtain ⟨-, rfl⟩ := resolveExtIndirect_some hres
    exact ⟨0, zero_le_one, h.plainThen _⟩
  · obtain ⟨-, rfl⟩ := resolveExtIndexed_some hres
    exact ⟨0, zero_le_one, h.plainThen _⟩
  all_goals cases hres

theorem resolveFixed_writes : WritesEdges resolveFixed := by
  intro p f r e' h hres
  obtain ⟨-, -, rfl⟩ := resolveFixed_some hres
  exact ⟨0, zero_le_one, h.foldl (fun _ x hx => hx.fixedOperand x.1 x.2) _⟩

theorem resolveLowWalk_writes : WritesEdges resolveLowWalk := by
  intro p f r e' h hres
  obtain ⟨-, rfl⟩ := resolveLowWalk_some hres
  split
  · exact ⟨0, zero_le_one, h.plainThen _⟩
  · exact ⟨0, zero_le_one, (h.plain _).regOperand _ _⟩

theorem resolveShortJump_writes : WritesEdges resolveShortJump := by
  intro p f r e' h hres
  unfold resolveShortJump at hres
  split at hres
  · cases hres
    exact ⟨1, le_rfl, (h.codeAddress _ _).jump _⟩
  · cases hres

theorem resolveShortCall_writes : WritesEdges resolveShortCall := by
  intro p f r e' h hres
  unfold resolveShortCall at hres
  split at hres
  · cases hres
    exact ⟨1, le_rfl, (h.codeAddress _ _).call _⟩
  · cases hres

theorem resolveBitTest_writes : WritesEdges resolveBitTest := by
  intro p f r e' h hres
  unfold resolveBitTest at hres
  split at hres
  · cases hres
    exact ⟨1, le_rfl, (((h.regOperand _ _).operand _ _).operand _ _).jump _⟩
  · cases hres

theorem resolveCondJump_writes : WritesEdges resolveCondJump := by
  intro p f r e' h hres
  unfold resolveCondJump at hres
  split at hres
  · cases hres
    exact ⟨1, le_rfl, (h.codeAddress _ _).jump _⟩
  · cases hres

theorem resolveDjnz_writes : WritesEdges resolveDjnz := by
  intro p f r e' h hres
  unfold resolveDjnz at hres
  split at hres
  · cases hres
    exact ⟨1, le_rfl, ((h.regOperand _ _).operand _ _).jump _⟩
  · cases hres

theorem resolveBranchIndirect_writes : WritesEdges resolveBranchIndirect := by
  intro p f r e' h hres
  unfold resolveBranchIndirect at hres
  split at hres
  · split at hres
    · cases hres
      exact ⟨1, le_rfl, (((h.retag rfl _ _).operand _ _).jump _).xref _⟩
    · cases hres
      exact ⟨1, le_rfl, (((h.retag rfl _ _).operand _ _).jump _).xref _⟩
  · cases hres

theorem resolveExtJump_writes : WritesEdges resolveExtJump := by
  intro p f r e' h hres
  unfold resolveExtJump at hres
  split at hres
  · cases hres
    exact ⟨1, le_rfl, (h.operand _ _).jump _⟩
  · cases hres

theorem resolveExtCall_writes : WritesEdges resolveExtCall := by
  intro p f r e' h hres
  unfold resolveExtCall at hres
  split at hres
  · cases hres
    exact ⟨1, le_rfl, (h.operand _ _).call _⟩
  · cases hres

theorem resolveLongJump_writes : WritesEdges resolveLongJump := by
  intro p f r e' h hres
  unfold resolveLongJump at hres
  split at hres
  · cases hres
    exact ⟨1, le_rfl, (h.codeAddress _ _).jump _⟩
  · cases hres

theorem resolveLongCall_writes : WritesEdges resolveLongCall := by
  intro p f r e' h hres
  unfold resolveLongCall at hres
  split at hres
  · cases hres
    exact ⟨1, le_rfl, (h.codeAddress _ _).call _⟩
  · cases hres

theorem groupResolver_writes (g : Group) : WritesEdges (groupResolver g) :=
  match g with
  | .shortJump => resolveShortJump_writes
  | .shortCall => resolveShortCall_writes
  | .bitClear | .bitSet => resolveBitTest_writes
  | .condJump => resolveCondJump_writes
  | .fx => .ite resolveExtCall_writes resolveFixed_writes
  | .ex => .ite resolveDjnz_writes <| .ite resolveBranchIndirect_writes <|
      .ite resolveExtJump_writes <| .ite resolveLongJump_writes <| .ite resolveLongCall_writes <|
      .ite resolveExtended_writes resolveFixed_writes
  | .low => .ite resolveExtended_writes resolveLowWalk_writes
  | .cx | .middle => resolveByMode_writes

/-! ## The finished record -/

theorem initRecord_writes (p : Params) (addr : Nat) (f : Fetched) :
    Eval.Writes p (initRecord addr f) 0 ⟨initRecord addr f, []⟩ :=
  .start rfl rfl rfl

/-- The finished record, handled or not: the initial one with operands and edges written
(spec/40_resolution.md R149). -/
theorem decodeRecord_writes {res : Resolver} (hres : WritesEdges res) (p : Params) (addr : Nat)
    (f : Fetched) : ∃ n ≤ 1, ∃ e checked, Eval.Writes p (initRecord addr f) n e ∧
      decodeRecord p addr f res = { e.record with checked } := by
  have hinit := initRecord_writes p addr f
  by_cases hops : f.t.ops = []
  · exact ⟨0, zero_le_one, _, true, hinit, decodeRecord_inherent p addr f res hops⟩
  · cases hr : res p f ⟨initRecord addr f, []⟩ with
    | none =>
      exact ⟨0, zero_le_one, _, false, hinit, decodeRecord_unhandled p addr f res hops hr⟩
    | some e =>
      obtain ⟨n, hn, he⟩ := hres p f _ e hinit hr
      exact ⟨n, hn, e, true, he, decodeRecord_handled p addr f res e hops hr⟩

/-- The resolvers write none of the fields that the initial record computes or copies from the
template, but mnemonic and mode (spec/40_resolution.md R125, R149). -/
theorem decodeRecord_frame (p : Params) (addr : Nat) (f : Fetched) (g : Group) :
    ∃ mnemonic mode operands checked xrefs calls jumps,
      decodeRecord p addr f (groupResolver g) = { initRecord addr f with
        mnemonic, mode, operands, checked, xrefs, calls, jumps } := by
  obtain ⟨n, -, e, checked, he, hrecord⟩ :=
    decodeRecord_writes (groupResolver_writes g) p addr f
  rw [hrecord, he.frame]
  exact ⟨_, _, _, _, _, _, _, rfl⟩

/-- By inspection of the default tables (spec/10_state.md R31). -/
theorem defaultTables_variableLength : (defaultTemplatesU ++ defaultTemplatesS).all (fun x =>
    x.2.variableLength == (x.2.mode == .indexed)) = true := by
  decide +kernel

/-- Settles O32: no resolver writes a flag, and the flags of the initial record are these; the
default tables hold VariableLength with mode `indexed` alone. -/
theorem resolversKeepFlags : Obligations.ResolversKeepFlags := by
  constructor
  · rintro p addr f r rfl
    obtain ⟨mnemonic, mode, operands, checked, xrefs, calls, jumps, hrecord⟩ :=
      decodeRecord_frame p addr f (groupOf f.opcode)
    rw [hrecord]
    exact ⟨rfl, by simp [initRecord, autoIncrementFlag, beq_eq_decide], rfl, rfl, rfl⟩
  · intro x hx
    have hrow := List.all_eq_true.mp defaultTables_variableLength x hx
    rw [eq_of_beq hrow, beq_iff_eq]

end Machine
end Sys2Proof
end

section
/-! SUPPORT. When a resolver is handled and which tags its operands have (spec/10_state.md R29;
spec/40_resolution.md R125-R135, R149): for each resolver the lists of tags that it may write, by
the shape of the template and the count of operand bytes, with no list where it is unhandled. -/

namespace Sys2Proof
namespace Machine

/-- The tag of an operand, the second part of R29's triple. -/
def Operand.tag (o : Operand) : Tag := o.value.tag

variable {p : Params} {f : Fetched} {e e' : Eval} {c : Nat} {lists : List (List Tag)}

/-- The operands written have the names the template declares, and their tags are one of these
lists. -/
def Eval.Named (f : Fetched) (lists : List (List Tag)) (e : Eval) : Prop :=
  e.record.operands.map Operand.name = f.t.ops.map OperandDesc.name ∧
    e.record.operands.map Operand.tag ∈ lists

/-- Where there is a list, the resolver is handled and writes operands by one of the lists. -/
def Resolves (f : Fetched) (lists : List (List Tag)) (o : Option Eval) : Prop :=
  lists ≠ [] → ∃ e, o = some e ∧ e.Named f lists

theorem resolves_nil {o : Option Eval} : Resolves f [] o := fun h => absurd rfl h

theorem resolves_some (h : e.Named f lists) : Resolves f lists (some e) := fun _ => ⟨e, rfl, h⟩

theorem resolves_ite {b : Prop} [Decidable b] {l l' : List (List Tag)} {o o' : Option Eval}
    (h : b → Resolves f l o) (h' : ¬ b → Resolves f l' o') :
    Resolves f (if b then l else l') (if b then o else o') := by
  split
  · exact h ‹_›
  · exact h' ‹_›

/-! ## The walk -/

theorem map_zip_fst {α β γ : Type} (g : α → γ) {l : List α} {l' : List β}
    (h : l.length ≤ l'.length) : (l.zip l').map (fun x => g x.1) = l.map g := by
  calc (l.zip l').map (fun x => g x.1) = ((l.zip l').map Prod.fst).map g := by
        rw [List.map_map]; rfl
    _ = l.map g := by rw [List.map_fst_zip h]

theorem plain_named (he : e.record.operands = []) (hL : c ≤ f.L) (hn : c ≤ f.n) :
    (plain p c f e).record.operands.map Operand.name =
        (f.t.ops.take c).map OperandDesc.name ∧
      (plain p c f e).record.operands.map Operand.tag = List.replicate c .reg := by
  have hlen : (f.t.ops.take c).length = c := by simpa [Fetched.n] using hn
  have hzip : (f.t.ops.take c).length ≤ f.ops.reverse.length := by
    rw [hlen, List.length_reverse]
    exact hL
  rw [plain_operands, he, List.nil_append, List.map_map, List.map_map]
  refine ⟨map_zip_fst OperandDesc.name hzip, (map_zip_fst (fun _ => Tag.reg) hzip).trans ?_⟩
  rw [List.map_const', hlen]

theorem take_names_append_lastName (hops : f.t.ops ≠ []) :
    (f.t.ops.take (f.n - 1)).map OperandDesc.name ++ [f.lastName] =
      f.t.ops.map OperandDesc.name := by
  obtain ⟨ds, d, hd⟩ := (List.eq_nil_or_concat' f.t.ops).resolve_left hops
  simp [Fetched.n, Fetched.lastName, hd]

/-- PLAIN(n-1), then the last operand: registers, and the tag of the last. -/
theorem plain_last_named {v : OperandVal} (he : e.record.operands = []) (hops : f.t.ops ≠ [])
    (hL : f.n ≤ f.L + 1) (hv : List.replicate (f.n - 1) .reg ++ [v.tag] ∈ lists)
    (he' : e'.record.operands = (plain p (f.n - 1) f e).record.operands ++ [⟨f.lastName, v⟩]) :
    e'.Named f lists := by
  obtain ⟨hnames, htags⟩ :=
    plain_named (p := p) (f := f) (c := f.n - 1) he (by omega) (Nat.sub_le _ _)
  unfold Eval.Named
  rw [he', List.map_append, List.map_append, hnames, htags]
  exact ⟨take_names_append_lastName hops, hv⟩

theorem plainThen_named {v : OperandVal} (he : e.record.operands = []) (hops : f.t.ops ≠ [])
    (hL : f.n ≤ f.L + 1) (hv : List.replicate (f.n - 1) .reg ++ [v.tag] ∈ lists) :
    (plainThen v p f e).Named f lists :=
  plain_last_named he hops hL hv rfl

/-- The tag of a FIXED operand, by its role (spec/40_resolution.md R135). -/
def fixedTag : Role → Tag
  | .imm8 => .imm8
  | .ind => .ind
  | .reg | .aop | .cnt | .ptr | .cadd | .bitno => .reg

theorem fixedOperand_operands (d : OperandDesc) (b : Byte) (e : Eval) :
    ∃ v : OperandVal, v.tag = fixedTag d.role ∧
      (fixedOperand p d b e).record.operands = e.record.operands ++ [⟨d.name, v⟩] := by
  unfold fixedOperand
  cases d.role <;> simp [Eval.regOperand, OperandVal.tag, fixedTag]

theorem foldl_fixedOperand_named (l : List (OperandDesc × Byte)) (e : Eval) :
    let e' := l.foldl (fun e x => fixedOperand p x.1 x.2 e) e
    e'.record.operands.map Operand.name =
        e.record.operands.map Operand.name ++ l.map (fun x => x.1.name) ∧
      e'.record.operands.map Operand.tag =
        e.record.operands.map Operand.tag ++ l.map (fun x => fixedTag x.1.role) := by
  induction l generalizing e with
  | nil => simp
  | cons x l ih =>
    obtain ⟨v, hv, hops⟩ := fixedOperand_operands (p := p) x.1 x.2 e
    obtain ⟨hnames, htags⟩ := ih (fixedOperand p x.1 x.2 e)
    simp only [List.foldl_cons, hnames, htags, hops]
    simp [Operand.tag, hv]

/-! ## The tags each resolver writes -/

/-- PLAIN(n-1), then an operand with this tag. -/
def walkTags (n : Nat) (last : Tag) : List Tag := List.replicate (n - 1) .reg ++ [last]

/-- DIRECT, IMMEDIATE, INDIRECT, SINDEXED or LINDEXED (spec/40_resolution.md R127-R131, R134). -/
def byModeTags (mode : Mode) (n L : Nat) : List (List Tag) :=
  match mode with
  | .direct => if L = n then [List.replicate n .reg] else []
  | .immediate =>
    if L = n then [walkTags n .imm8] else if L = n + 1 then [walkTags n .imm16] else []
  | .indirect => if L = n then [walkTags n .ind] else []
  | .indirectInc => if L = n then [walkTags n .indInc] else []
  | .indexed | .shortIndexed => if L = n + 1 then [walkTags n .sidx] else []
  | .longIndexed => if L = n + 2 then [walkTags n .lidx] else []
  | .extendedIndirect | .extendedIndexed | .inherent | .relative | .extendedRelative | .fixed => []

/-- EINDIRECT or EINDEXED (spec/40_resolution.md R132, R133). -/
def extendedTags (mode : Mode) (n L : Nat) : List (List Tag) :=
  match mode with
  | .extendedIndirect => if L = n then [walkTags n .eind] else []
  | .extendedIndexed => if L = n + 3 then [walkTags n .eidx] else []
  | .direct | .immediate | .indirect | .indirectInc | .indexed | .shortIndexed | .longIndexed
  | .inherent | .relative | .extendedRelative | .fixed => []

/-- FIXED (spec/40_resolution.md R135). -/
def fixedTags (ops : List OperandDesc) (L : Nat) : List (List Tag) :=
  if L = ops.length ∧ ops.all (fun d => fixedAccepts d.role) then
    [ops.map fun d => fixedTag d.role] else []

/-- The low-group walk: the last operand may be an immediate where bit 3 of the opcode is set, but
for NORML (spec/47_low_group.md R281). -/
def lowWalkTags (opcode : Byte) (n L : Nat) : List (List Tag) :=
  if n ≤ L then
    walkTags n .reg :: if opcode.getLsbD 3 && opcode != 0x0F then [walkTags n .imm8] else []
  else []

/-- A special-cased layout with `n'` operands and `L'` operand bytes
(spec/40_resolution.md R149; assumption log, entry 6). -/
def layoutTags (n' L' n L : Nat) (lists : List (List Tag)) : List (List Tag) :=
  if n = n' ∧ L = L' then lists else []

/-- The tags of the group's resolver, in the order of its tests (spec/30_encoding.md R88). -/
def groupTags (opcode : Byte) (t : Template) (mode : Mode) (L : Nat) : List (List Tag) :=
  let n := t.ops.length
  match groupOf opcode with
  | .shortJump | .shortCall | .condJump => layoutTags 1 1 n L [[.cadd]]
  | .bitClear | .bitSet => layoutTags 3 2 n L [[.reg, .bitno, .cadd]]
  | .fx => if opcode = 0xF1 then layoutTags 1 3 n L [[.xcadd]] else fixedTags t.ops L
  | .ex =>
    if opcode = 0xE0 ∨ opcode = 0xE1 then layoutTags 2 2 n L [[.reg, .cadd]]
    else if opcode = 0xE3 then layoutTags 1 1 n L [[.ind], [.eind]]
    else if opcode = 0xE6 then layoutTags 1 3 n L [[.xcadd]]
    else if opcode = 0xE7 then layoutTags 1 2 n L [[.cadd]]
    else if opcode = 0xEF then layoutTags 1 2 n L [[.cadd]]
    else if opcode &&& 0xFC = 0xE8 then extendedTags t.mode n L
    else fixedTags t.ops L
  | .low =>
    if opcode = 0x1D ∨ opcode = 0x1F then extendedTags t.mode n L else lowWalkTags opcode n L
  | .cx | .middle => byModeTags mode n L

theorem resolves_layout {n' L' : Nat} {o : Option Eval}
    (h : f.n = n' → f.L = L' → Resolves f lists o) :
    Resolves f (layoutTags n' L' f.n f.L lists) o := by
  unfold layoutTags
  split
  case isTrue hshape => exact h hshape.1 hshape.2
  case isFalse => exact resolves_nil

/-! ## Every resolver writes them -/

theorem resolveDirect_resolves (he : e.record.operands = []) :
    Resolves f (if f.L = f.n then [List.replicate f.n .reg] else []) (resolveDirect p f e) := by
  refine resolves_ite (fun hL => resolves_some ?_) fun _ => resolves_nil
  obtain ⟨hnames, htags⟩ := plain_named (p := p) (f := f) (c := f.n) he hL.ge le_rfl
  exact ⟨hnames.trans (by simp [Fetched.n]), by simp [htags]⟩

theorem resolveImmediate_resolves (he : e.record.operands = []) (hops : f.t.ops ≠ []) :
    Resolves f (if f.L = f.n then [walkTags f.n .imm8]
      else if f.L = f.n + 1 then [walkTags f.n .imm16] else []) (resolveImmediate p f e) :=
  resolves_ite
    (fun hL => resolves_some (plainThen_named he hops (by omega) (List.mem_singleton.mpr rfl)))
    fun _ => resolves_ite
      (fun hL => resolves_some (plainThen_named he hops (by omega) (List.mem_singleton.mpr rfl)))
      fun _ => resolves_nil

theorem resolveIndirect_resolves (he : e.record.operands = []) (hops : f.t.ops ≠ []) :
    Resolves f (if f.L = f.n then
        [walkTags f.n (if e.record.mode = .indirectInc then .indInc else .ind)] else [])
      (resolveIndirect p f e) := by
  refine resolves_ite (fun hL => resolves_some (plainThen_named he hops (by omega) ?_))
    fun _ => resolves_nil
  split <;> exact List.mem_singleton.mpr rfl

theorem resolveShortIndexed_resolves (he : e.record.operands = []) (hops : f.t.ops ≠ []) :
    Resolves f (if f.L = f.n + 1 then [walkTags f.n .sidx] else []) (resolveShortIndexed p f e) :=
  resolves_ite
    (fun hL => resolves_some (plainThen_named he hops (by omega) (List.mem_singleton.mpr rfl)))
    fun _ => resolves_nil

theorem resolveLongIndexed_resolves (he : e.record.operands = []) (hops : f.t.ops ≠ []) :
    Resolves f (if f.L = f.n + 2 then [walkTags f.n .lidx] else []) (resolveLongIndexed p f e) :=
  resolves_ite
    (fun hL => resolves_some (plainThen_named he hops (by omega) (List.mem_singleton.mpr rfl)))
    fun _ => resolves_nil

theorem resolveByMode_resolves (he : e.record.operands = []) (hops : f.t.ops ≠ []) :
    Resolves f (byModeTags e.record.mode f.n f.L) (resolveByMode p f e) := by
  have hind := resolveIndirect_resolves (p := p) he hops
  unfold byModeTags resolveByMode
  cases hmode : e.record.mode with
  | direct => exact resolveDirect_resolves he
  | immediate => exact resolveImmediate_resolves he hops
  | indirect => simpa [hmode] using hind
  | indirectInc => simpa [hmode] using hind
  | indexed | shortIndexed => exact resolveShortIndexed_resolves he hops
  | longIndexed => exact resolveLongIndexed_resolves he hops
  | _ => exact resolves_nil

theorem resolveExtended_resolves (he : e.record.operands = []) (hops : f.t.ops ≠ []) :
    Resolves f (extendedTags f.t.mode f.n f.L) (resolveExtended p f e) := by
  unfold extendedTags resolveExtended
  cases f.t.mode with
  | extendedIndirect | extendedIndexed =>
    exact resolves_ite
      (fun hL => resolves_some (plainThen_named he hops (by omega) (List.mem_singleton.mpr rfl)))
      fun _ => resolves_nil
  | _ => exact resolves_nil

theorem resolveFixed_resolves (he : e.record.operands = []) :
    Resolves f (fixedTags f.t.ops f.L) (resolveFixed p f e) := by
  refine resolves_ite (fun hL => resolves_some ?_) fun _ => resolves_nil
  have hzip : f.t.ops.length ≤ f.ops.reverse.length := by
    rw [List.length_reverse]
    exact hL.1.ge
  obtain ⟨hnames, htags⟩ := foldl_fixedOperand_named (p := p) (f.t.ops.zip f.ops.reverse) e
  rw [he, List.map_nil, List.nil_append, map_zip_fst OperandDesc.name hzip] at hnames
  rw [he, List.map_nil, List.nil_append, map_zip_fst (fun d => fixedTag d.role) hzip] at htags
  exact ⟨hnames, htags ▸ List.mem_singleton.mpr rfl⟩

theorem resolveLowWalk_resolves (he : e.record.operands = []) (hops : f.t.ops ≠ []) :
    Resolves f (lowWalkTags f.opcode f.n f.L) (resolveLowWalk p f e) := by
  refine resolves_ite (fun hL => resolves_some ?_) fun _ => resolves_nil
  cases hcount : countIsImmediate f.opcode (f.op (f.L - f.n)) with
  | true =>
    obtain ⟨hopcode, -⟩ : (f.opcode.getLsbD 3 && f.opcode != 0x0F) = true ∧ _ :=
      (Bool.and_eq_true _ _).mp hcount
    refine plain_last_named he hops (by omega) ?_ rfl
    rw [if_pos hopcode]
    exact List.mem_cons_of_mem _ List.mem_cons_self
  | false =>
    refine plain_last_named (p := p) (v := .reg (f.op (f.L - f.n))) he hops (by omega)
      List.mem_cons_self ?_
    simp [Eval.regOperand]

theorem resolveShortJump_resolves (he : e.record.operands = []) :
    Resolves f (layoutTags 1 1 f.n f.L [[.cadd]]) (resolveShortJump p f e) := by
  refine resolves_layout fun hn hL => ?_
  obtain ⟨d, hd⟩ := List.length_eq_one_iff.mp hn
  obtain ⟨lo, hlo⟩ := List.length_eq_one_iff.mp hL
  rw [resolveShortJump, hd, hlo]
  exact resolves_some (by simp [Eval.Named, Eval.codeAddress, he, hd, Operand.tag, OperandVal.tag])

theorem resolveShortCall_resolves (he : e.record.operands = []) :
    Resolves f (layoutTags 1 1 f.n f.L [[.cadd]]) (resolveShortCall p f e) := by
  refine resolves_layout fun hn hL => ?_
  obtain ⟨d, hd⟩ := List.length_eq_one_iff.mp hn
  obtain ⟨lo, hlo⟩ := List.length_eq_one_iff.mp hL
  rw [resolveShortCall, hd, hlo]
  exact resolves_some (by simp [Eval.Named, Eval.codeAddress, he, hd, Operand.tag, OperandVal.tag])

theorem resolveCondJump_resolves (he : e.record.operands = []) :
    Resolves f (layoutTags 1 1 f.n f.L [[.cadd]]) (resolveCondJump p f e) := by
  refine resolves_layout fun hn hL => ?_
  obtain ⟨d, hd⟩ := List.length_eq_one_iff.mp hn
  obtain ⟨disp, hdisp⟩ := List.length_eq_one_iff.mp hL
  rw [resolveCondJump, hd, hdisp]
  exact resolves_some (by simp [Eval.Named, Eval.codeAddress, he, hd, Operand.tag, OperandVal.tag])

theorem resolveBitTest_resolves (he : e.record.operands = []) :
    Resolves f (layoutTags 3 2 f.n f.L [[.reg, .bitno, .cadd]]) (resolveBitTest p f e) := by
  refine resolves_layout fun hn hL => ?_
  obtain ⟨d0, d1, d2, hd⟩ := List.length_eq_three.mp hn
  obtain ⟨reg, disp, hops⟩ := List.length_eq_two.mp hL
  rw [resolveBitTest, hd, hops]
  exact resolves_some (by simp [Eval.Named, Eval.regOperand, he, hd, Operand.tag, OperandVal.tag])

theorem resolveDjnz_resolves (he : e.record.operands = []) :
    Resolves f (layoutTags 2 2 f.n f.L [[.reg, .cadd]]) (resolveDjnz p f e) := by
  refine resolves_layout fun hn hL => ?_
  obtain ⟨d0, d1, hd⟩ := List.length_eq_two.mp hn
  obtain ⟨reg, disp, hops⟩ := List.length_eq_two.mp hL
  rw [resolveDjnz, hd, hops]
  exact resolves_some (by simp [Eval.Named, Eval.regOperand, he, hd, Operand.tag, OperandVal.tag])

theorem resolveBranchIndirect_resolves (he : e.record.operands = []) :
    Resolves f (layoutTags 1 1 f.n f.L [[.ind], [.eind]]) (resolveBranchIndirect p f e) := by
  refine resolves_layout fun hn hL => ?_
  obtain ⟨d, hd⟩ := List.length_eq_one_iff.mp hn
  obtain ⟨b, hb⟩ := List.length_eq_one_iff.mp hL
  rw [resolveBranchIndirect, hd, hb]
  dsimp only
  split
  · exact resolves_some (by simp [Eval.Named, he, hd, Operand.tag, OperandVal.tag])
  · exact resolves_some (by simp [Eval.Named, he, hd, Operand.tag, OperandVal.tag])

theorem resolveExtJump_resolves (he : e.record.operands = []) :
    Resolves f (layoutTags 1 3 f.n f.L [[.xcadd]]) (resolveExtJump p f e) := by
  refine resolves_layout fun hn hL => ?_
  obtain ⟨d, hd⟩ := List.length_eq_one_iff.mp hn
  obtain ⟨x0, x1, x2, hx⟩ := List.length_eq_three.mp hL
  rw [resolveExtJump, hd, hx]
  exact resolves_some (by simp [Eval.Named, he, hd, Operand.tag, OperandVal.tag])

theorem resolveExtCall_resolves (he : e.record.operands = []) :
    Resolves f (layoutTags 1 3 f.n f.L [[.xcadd]]) (resolveExtCall p f e) := by
  refine resolves_layout fun hn hL => ?_
  obtain ⟨d, hd⟩ := List.length_eq_one_iff.mp hn
  obtain ⟨x0, x1, x2, hx⟩ := List.length_eq_three.mp hL
  rw [resolveExtCall, hd, hx]
  exact resolves_some (by simp [Eval.Named, he, hd, Operand.tag, OperandVal.tag])

theorem resolveLongJump_resolves (he : e.record.operands = []) :
    Resolves f (layoutTags 1 2 f.n f.L [[.cadd]]) (resolveLongJump p f e) := by
  refine resolves_layout fun hn hL => ?_
  obtain ⟨d, hd⟩ := List.length_eq_one_iff.mp hn
  obtain ⟨lo, hi, hdisp⟩ := List.length_eq_two.mp hL
  rw [resolveLongJump, hd, hdisp]
  exact resolves_some (by simp [Eval.Named, Eval.codeAddress, he, hd, Operand.tag, OperandVal.tag])

theorem resolveLongCall_resolves (he : e.record.operands = []) :
    Resolves f (layoutTags 1 2 f.n f.L [[.cadd]]) (resolveLongCall p f e) := by
  refine resolves_layout fun hn hL => ?_
  obtain ⟨d, hd⟩ := List.length_eq_one_iff.mp hn
  obtain ⟨lo, hi, hdisp⟩ := List.length_eq_two.mp hL
  rw [resolveLongCall, hd, hdisp]
  exact resolves_some (by simp [Eval.Named, Eval.codeAddress, he, hd, Operand.tag, OperandVal.tag])

/-- The resolver of the opcode's group is handled where `groupTags` has a list, and writes operands
with the names of the template and one of these lists of tags. -/
theorem groupResolver_resolves (he : e.record.operands = []) (hops : f.t.ops ≠ []) :
    Resolves f (groupTags f.opcode f.t e.record.mode f.L)
      (groupResolver (groupOf f.opcode) p f e) := by
  unfold groupTags
  cases groupOf f.opcode with
  | shortJump => exact resolveShortJump_resolves (p := p) he
  | shortCall => exact resolveShortCall_resolves (p := p) he
  | bitClear | bitSet => exact resolveBitTest_resolves he
  | condJump => exact resolveCondJump_resolves (p := p) he
  | fx =>
    exact resolves_ite (fun _ => resolveExtCall_resolves he) fun _ => resolveFixed_resolves he
  | ex =>
    exact resolves_ite (fun _ => resolveDjnz_resolves he) fun _ =>
      resolves_ite (fun _ => resolveBranchIndirect_resolves he) fun _ =>
      resolves_ite (fun _ => resolveExtJump_resolves he) fun _ =>
      resolves_ite (fun _ => resolveLongJump_resolves (p := p) he) fun _ =>
      resolves_ite (fun _ => resolveLongCall_resolves (p := p) he) fun _ =>
      resolves_ite (fun _ => resolveExtended_resolves he hops) fun _ => resolveFixed_resolves he
  | cx | middle => exact resolveByMode_resolves he hops
  | low =>
    exact resolves_ite (fun _ => resolveExtended_resolves he hops) fun _ =>
      resolveLowWalk_resolves he hops

/-! ## The default tables -/

/-- The template's own sets hold these tags, in its order (spec/10_state.md R29). -/
def declares (t : Template) (tags : List Tag) : Bool :=
  tags.length == t.ops.length && (tags.zip (t.ops.map OperandDesc.varTypes)).all fun x =>
    x.2.contains x.1

/-- Under this mode bit, a row's instruction is of 1 to 7 bytes, has at most three operands, is
resolved, and has tags that its template declares. -/
def rowSuits (signed : Bool) (opcode : Byte) (t : Template) (modeBit : Bool) : Bool :=
  let len := finalLength t signed modeBit
  let lists := groupTags opcode t (refinedMode t modeBit) (len - (if signed then 2 else 1))
  1 ≤ len && len ≤ 7 && t.ops.length ≤ 3 &&
    (t.ops.isEmpty || !lists.isEmpty && lists.all (declares t))

theorem defaultTemplatesU_suit : defaultTemplatesU.all (fun x =>
    rowSuits false x.1 x.2 false && rowSuits false x.1 x.2 true) = true := by
  decide +kernel

theorem defaultTemplatesS_suit : defaultTemplatesS.all (fun x =>
    rowSuits true x.1 x.2 false && rowSuits true x.1 x.2 true) = true := by
  decide +kernel

theorem mem_of_lookup {α β : Type} [BEq α] [LawfulBEq α] {l : List (α × β)} {a : α} {b : β}
    (h : l.lookup a = some b) : (a, b) ∈ l := by
  obtain ⟨l₁, l₂, rfl, -⟩ := List.lookup_eq_some_iff.mp h
  simp

/-- Every template found in the default tables suits its opcode, under either mode bit. -/
theorem rowSuits_of_lookup {signed : Bool} {opcode : Byte} {t : Template}
    (htables : hasDefaultTables p) (h : lookupTemplate p signed opcode = some t) (modeBit : Bool) :
    rowSuits signed opcode t modeBit = true := by
  obtain ⟨hU, hS⟩ := htables
  have hboth : rowSuits signed opcode t false = true ∧ rowSuits signed opcode t true = true := by
    have hmem := mem_of_lookup h
    cases signed with
    | false =>
      rw [templateTable, if_neg Bool.false_ne_true, hU] at hmem
      exact (Bool.and_eq_true _ _).mp (List.all_eq_true.mp defaultTemplatesU_suit _ hmem)
    | true =>
      rw [templateTable, if_pos rfl, hS] at hmem
      exact (Bool.and_eq_true _ _).mp (List.all_eq_true.mp defaultTemplatesS_suit _ hmem)
  cases modeBit
  · exact hboth.1
  · exact hboth.2

end Machine
end Sys2Proof
end

section
/-! SUPPORT. The invariant of the machine with the default tables (spec/10_state.md R26, R29, R30;
spec/30_encoding.md R84-R86; spec/60_exceptions.md R384, R392): whatever the valid bytes, the
outcome of the table-driven decoder is well formed for them, and so is that of a step. -/

namespace Sys2Proof
namespace Machine

variable {p : Params} {bytes : List Byte} {f : Fetched} {e : Eval} {n addr : Nat} {s : State}

/-! ## The record -/

theorem FetchedFrom.raw_length (h : FetchedFrom p bytes f) :
    f.raw.length = finalLength f.t f.signed f.modeBit := by
  rw [h.raw, List.length_take, min_eq_left h.fits]

theorem FetchedFrom.L_eq (h : FetchedFrom p bytes f) :
    f.L = finalLength f.t f.signed f.modeBit - (if f.signed then 2 else 1) := by
  rw [Fetched.L, Fetched.ops, List.length_drop, h.raw_length, Fetched.start]

/-- Operands written by declared tags are declared ones (spec/10_state.md R29). -/
theorem operandsDeclared_of_named {lists : List (List Tag)} (h : e.Named f lists)
    (hlists : lists.all (declares f.t) = true) (hwrites : e.Writes p (initRecord addr f) n) :
    e.record.operandsDeclared := by
  obtain ⟨hnames, htags⟩ := h
  have hvarNames : e.record.varNames = f.t.ops.map OperandDesc.name :=
    congrArg Record.varNames hwrites.frame
  have hvarTypes : e.record.varTypes = f.t.ops.map OperandDesc.varTypes :=
    congrArg Record.varTypes hwrites.frame
  have hdeclares := List.all_eq_true.mp hlists _ htags
  simp only [declares, Bool.and_eq_true, beq_iff_eq, List.length_map, List.all_eq_true,
    List.contains_iff_mem] at hdeclares
  obtain ⟨hlength, hall⟩ := hdeclares
  refine ⟨hnames.trans hvarNames.symm, by rw [hvarTypes, List.length_map, hlength], ?_⟩
  rw [hvarTypes]
  intro x hx
  refine hall (x.1.tag, x.2) ?_
  rw [List.zip_map_left]
  exact List.mem_map_of_mem hx

/-- A row that suits is resolved: its record is Checked, with declared operands
(spec/40_resolution.md R149). -/
theorem decodeRecord_resolved (h : FetchedFrom p bytes f)
    (hsuits : rowSuits f.signed f.opcode f.t f.modeBit = true) (addr : Nat) :
    ∃ n ≤ 1, ∃ e, Eval.Writes p (initRecord addr f) n e ∧ e.record.operandsDeclared ∧
      decodeRecord p addr f (groupResolver (groupOf f.opcode)) =
        { e.record with checked := true } := by
  have hinit := initRecord_writes p addr f
  by_cases hops : f.t.ops = []
  · refine ⟨0, zero_le_one, _, hinit, ?_, decodeRecord_inherent p addr f _ hops⟩
    simp [Record.operandsDeclared, initRecord, hops]
  · simp only [rowSuits, ← h.L_eq, Bool.and_eq_true, Bool.or_eq_true, List.isEmpty_iff, hops,
      false_or, Bool.not_eq_true', List.isEmpty_eq_false_iff] at hsuits
    obtain ⟨-, hne, hlists⟩ := hsuits
    obtain ⟨e, he, hnamed⟩ :=
      groupResolver_resolves (p := p) (e := ⟨initRecord addr f, []⟩) rfl hops hne
    obtain ⟨n, hn, hwrites⟩ := groupResolver_writes _ p f _ e hinit he
    exact ⟨n, hn, e, hwrites, operandsDeclared_of_named hnamed hlists hwrites,
      decodeRecord_handled p addr f _ e hops he⟩

/-- The record of a fetched instruction of the default tables. -/
theorem decodeRecord_wf (htables : hasDefaultTables p) (h : FetchedFrom p bytes f) {r : Record}
    (hr : r = decodeRecord p addr f (groupResolver (groupOf f.opcode))) :
    r.wf p ∧ r.checked = true ∧ r.address = addr ∧ r.byteLength ≤ bytes.length ∧
      r.raw = bytes.take r.byteLength := by
  have hsuits := rowSuits_of_lookup htables h.lookup f.modeBit
  obtain ⟨n, hn, e, hwrites, hdeclared, hrecord⟩ := decodeRecord_resolved h hsuits addr
  simp only [rowSuits, Bool.and_eq_true, decide_eq_true_eq] at hsuits
  obtain ⟨⟨⟨hpos, -⟩, hcount⟩, -⟩ := hsuits
  have hframe := hwrites.frame
  have haddress : e.record.address = addr := congrArg Record.address hframe
  have hlength : e.record.byteLength = finalLength f.t f.signed f.modeBit :=
    congrArg Record.byteLength hframe
  have hraw : e.record.raw = f.raw := congrArg Record.raw hframe
  have hrawOps : e.record.rawOps = f.ops := congrArg Record.rawOps hframe
  have hsigned : e.record.signed = f.signed := congrArg Record.signed hframe
  have hsignedFlag : e.record.signedFlag = f.signed := congrArg Record.signedFlag hframe
  have hops : e.record.operandCount = f.t.ops.length := congrArg Record.operandCount hframe
  have hnames : e.record.varNames = f.t.ops.map OperandDesc.name :=
    congrArg Record.varNames hframe
  have htypes : e.record.varTypes = f.t.ops.map OperandDesc.varTypes :=
    congrArg Record.varTypes hframe
  subst hr
  rw [hrecord]
  refine ⟨⟨?_, ?_, ?_, ?_, ?_, ?_, ?_, hdeclared, hwrites.own, hwrites.filtered, ?_⟩, rfl,
    haddress, ?_, ?_⟩ <;> dsimp only
  · rw [hlength]; exact hpos
  · rw [hraw, hlength, h.raw_length]
  · rw [hrawOps, hraw, hsigned]; rfl
  · rw [hops]; exact hcount
  · rw [hnames, hops, List.length_map]
  · rw [htypes, hops, List.length_map]
  · rw [hsignedFlag, hsigned]
  · exact hwrites.count.trans_le hn
  · rw [hlength]; exact h.fits
  · rw [hraw, hlength]; exact h.raw

/-! ## The other outcomes -/

theorem modeByteIndex_le_two (p : Params) (signed : Bool) : modeByteIndex p signed ≤ 2 := by
  unfold modeByteIndex
  split <;> decide

/-- A truncated window holds fewer bytes than it needs, and never needs more than seven
(spec/60_exceptions.md R382, R392). -/
theorem classify_truncated_bounds (htables : hasDefaultTables p) {need : Nat}
    (h : classify p bytes = .truncated need) : bytes.length < need ∧ need ≤ 7 := by
  have hat : ∀ {first signed opcode}, classifyAt p first signed opcode bytes = .truncated need →
      bytes.length < need ∧ need ≤ 7 := by
    intro first signed opcode hclass
    obtain ⟨t, hlookup, ⟨-, hshort, rfl⟩ | ⟨-, hshort, rfl⟩⟩ := classifyAt_truncated hclass
    · have hidx := modeByteIndex_le_two p signed
      omega
    · have hsuits := rowSuits_of_lookup htables hlookup (modeBitOf p t signed bytes)
      simp only [rowSuits, Bool.and_eq_true, decide_eq_true_eq] at hsuits
      obtain ⟨⟨⟨-, hseven⟩, -⟩, -⟩ := hsuits
      exact ⟨hshort, hseven⟩
  rcases classify_cases p bytes with
    ⟨rfl, hc⟩ | ⟨rfl, hc⟩ | ⟨b1, rest, -, hc⟩ | ⟨b0, rest, -, -, hc⟩
  · cases hc.symm.trans h
    exact ⟨Nat.zero_lt_one, by decide⟩
  · cases hc.symm.trans h
    exact ⟨Nat.one_lt_two, by decide⟩
  · exact hat (hc.symm.trans h)
  · exact hat (hc.symm.trans h)

/-- An unknown opcode is reported with the first byte of the window (spec/60_exceptions.md R380). -/
theorem classify_unknown_first {first : Byte} (h : classify p bytes = .unknown first) :
    ∃ rest, bytes = first :: rest := by
  rcases classify_cases p bytes with
    ⟨-, hc⟩ | ⟨-, hc⟩ | ⟨b1, rest, hbytes, hc⟩ | ⟨b0, rest, -, hbytes, hc⟩
  · cases hc.symm.trans h
  · cases hc.symm.trans h
  · obtain ⟨-, rfl⟩ := classifyAt_unknown (hc.symm.trans h)
    exact ⟨_, hbytes⟩
  · obtain ⟨-, rfl⟩ := classifyAt_unknown (hc.symm.trans h)
    exact ⟨_, hbytes⟩

/-! ## The step -/

theorem window_length (hfit : s.portsFit = true) : s.window.length = s.avail := by
  simp only [State.portsFit, Bool.and_eq_true, beq_iff_eq, decide_eq_true_eq] at hfit
  obtain ⟨hwin, havail⟩ := hfit
  rw [State.window, List.length_take, hwin, min_eq_left havail]

theorem window_take {k : Nat} (hk : k ≤ s.avail) : s.window.take k = s.win.take k := by
  rw [State.window, List.take_take, min_eq_left hk]

/-- With the default tables the table-driven decoder gives an outcome for the inputs on the
ports. -/
theorem outputWf_reference (htables : hasDefaultTables s.cfg) (hfit : s.portsFit = true) :
    (s.emit (referenceOutput s.cfg s.addr s.window)).outputWf := by
  have hlen := window_length hfit
  unfold referenceOutput
  cases hclass : classify s.cfg s.window with
  | truncated need =>
    have hbounds := classify_truncated_bounds htables hclass
    rw [hlen] at hbounds
    exact hbounds
  | unknown first =>
    obtain ⟨rest, hrest⟩ := classify_unknown_first hclass
    have havail : 1 ≤ s.avail := by
      rw [← hlen, hrest]
      exact Nat.le_add_left 1 _
    refine ⟨rfl, havail, ?_⟩
    rw [State.emit_win, ← window_take havail, hrest]
    rfl
  | fetched f =>
    obtain ⟨hwf, hchecked, haddress, hbytes, hraw⟩ :=
      decodeRecord_wf htables (fetchedFrom_of_classify hclass) (addr := s.addr) rfl
    rw [hlen] at hbytes
    exact ⟨hwf, hchecked, haddress, hbytes, hraw.trans (window_take hbytes)⟩

/-- Settles O6: a step is the table-driven decoder, whose outcome is well formed for its inputs. -/
theorem everyEvaluationAnswersConsistently : Obligations.EveryEvaluationAnswersConsistently :=
  fun _ htables hfit =>
    ⟨_, step_eq_reference hfit, htables, hfit, outputWf_reference htables hfit⟩

/-- Settles O5: the invariant gives the default tables and the ports, and the answer of a step is
unique. -/
theorem stepKeepsInvariant : Obligations.StepKeepsInvariant := by
  rintro s t ⟨htables, hfit, -⟩ hstep
  obtain ⟨t', hstep', hinv⟩ := everyEvaluationAnswersConsistently s htables hfit
  cases hstep'.symm.trans hstep
  exact hinv

/-- Settles O4: reset holds the outcome of check T0 for the empty window
(spec/60_exceptions.md R382). -/
theorem resetMeetsInvariant : Obligations.ResetMeetsInvariant :=
  ⟨⟨rfl, rfl⟩, rfl, Nat.zero_lt_one, by decide⟩

/-! ## The flag Signed -/

/-- An instruction is signed exactly behind SIGNED_PREFIX (spec/30_encoding.md R72). -/
theorem FetchedFrom.signed_iff (h : FetchedFrom p bytes f) : f.signed = true ↔
    ∃ b rest, bytes = p.signedPrefix :: b :: rest ∧ (lookupTemplate p true b).isSome = true := by
  obtain ⟨rest, hrest⟩ := h.front
  have hlookup := h.lookup
  have hunsigned := h.unsigned
  cases hs : f.signed with
  | true =>
    rw [hs] at hrest hlookup
    exact ⟨fun _ => ⟨f.opcode, rest, hrest, by rw [hlookup]; rfl⟩, fun _ => rfl⟩
  | false =>
    rw [hs] at hrest
    refine ⟨nofun, ?_⟩
    rintro ⟨b, rest', hprefix, -⟩
    exact absurd (List.head_eq_of_cons_eq (hrest.symm.trans hprefix)) (hunsigned hs)

/-- SIGNED_PREFIX before a byte without signed template (spec/10_state.md R33,
spec/60_exceptions.md R380). -/
theorem decode_prefix_unknown {b : Byte} {rest : List Byte} (hb : lookupTemplate p true b = none) :
    decode p (p.signedPrefix :: b :: rest) = .unknown p.signedPrefix := by
  simp [decode, classify, classifyAt, hb]

/-- Settles O31: a record comes from a fetched instruction, and its flag is the one fetched. -/
theorem signedFlag : Obligations.SignedFlag := by
  constructor
  · intro s t r hstep hout
    obtain ⟨hfit, -⟩ := step_next hstep
    cases (step_eq_reference hfit).symm.trans hstep
    rw [State.emit_out, referenceOutput] at hout
    split at hout
    · cases hout
    · cases hout
    · rename_i f hclass
      cases hout
      obtain ⟨mnemonic, mode, operands, checked, xrefs, calls, jumps, hrecord⟩ :=
        decodeRecord_frame s.cfg s.addr f (groupOf f.opcode)
      rw [hrecord]
      exact (fetchedFrom_of_classify hclass).signed_iff
  · intro s b rest hfit hwindow hb
    exact step_unknown hfit (hwindow ▸ decode_prefix_unknown hb)

/-! ## One equation of the step per outcome -/

/-- Settles O1. -/
theorem stepRunsDecodedInstruction : Obligations.StepRunsDecodedInstruction :=
  fun _ _ hfit hdecode => step_instr hfit hdecode

/-- Settles O2: the two outcomes are put on the output port by `emit`. -/
theorem stepReportsOtherOutcomes : Obligations.StepReportsOtherOutcomes :=
  ⟨fun _ _ hfit hdecode => step_truncated hfit hdecode,
    fun _ _ hfit hdecode => step_unknown hfit hdecode, fun _ hfit => step_unfit hfit⟩

end Machine
end Sys2Proof
end

section
/-! SUPPORT. The record of an instruction that ends a walk of registers with one other operand
(spec/40_resolution.md R121, R126-R131), and with it the indexed rows of the middle group
(spec/48_middle_group.md R320-R352). -/

namespace Sys2Proof
namespace Machine

variable {p : Params} {f : Fetched} {e : Eval} {addr : Nat} {res : Resolver} {v : OperandVal}
  {regs tail : List Byte} {names : List String} {last : String}

/-! ## The cross-references of a walk -/

/-- The targets that a list of registers adds to those in `seen` (spec/40_resolution.md R121). -/
def newTargets (p : Params) (seen : List Nat) (regs : List Byte) : List Nat :=
  ((regs.map BitVec.toNat).filter fun v => p.xrefThreshold < v ∧ v ∉ seen).eraseDups

theorem newTargets_empty (p : Params) (regs : List Byte) :
    newTargets p [] regs = xrefTargets p regs := by
  simp [newTargets, xrefTargets]

theorem newTargets_cons_new {seen : List Nat} {b : Byte}
    (h : p.xrefThreshold < b.toNat ∧ b.toNat ∉ seen) :
    newTargets p seen (b :: regs) = b.toNat :: newTargets p (seen ++ [b.toNat]) regs := by
  unfold newTargets
  rw [List.map_cons, List.filter_cons_of_pos (by simpa using h), List.eraseDups_cons,
    List.filter_filter]
  congr 3
  funext v
  simp only [List.mem_append, List.mem_singleton, not_or, Bool.decide_and, decide_not]
  grind

theorem newTargets_cons_old {seen : List Nat} {b : Byte}
    (h : b.toNat ≤ p.xrefThreshold ∨ b.toNat ∈ seen) :
    newTargets p seen (b :: regs) = newTargets p seen regs := by
  have hold : ¬ (p.xrefThreshold < b.toNat ∧ b.toNat ∉ seen) := by
    rintro ⟨habove, hnew⟩
    exact h.elim (by omega) hnew
  unfold newTargets
  rw [List.map_cons, List.filter_cons_of_neg (by simpa using hold)]

theorem Eval.regOperand_edge (name : String) (b : Byte) (e : Eval) (t : Int) :
    (e.regOperand p name b).edge t = e.edge t := by
  simp [Eval.edge, Eval.regOperand]

/-- A register operand takes its target from those that the registers behind it may add. -/
theorem regOperand_newTargets (name : String) (b : Byte) (bs : List Byte) (e : Eval) :
    (e.regOperand p name b).record.xrefs ++
        (newTargets p (e.regOperand p name b).seen bs).map (fun t : Nat => e.edge t) =
      e.record.xrefs ++ (newTargets p e.seen (b :: bs)).map (fun t : Nat => e.edge t) := by
  unfold Eval.regOperand
  rcases Eval.xref_cases p b (e.operand name (.reg b)) with ⟨habove, hnew, heq⟩ | ⟨hold, heq⟩
  · have hcons : newTargets p e.seen (b :: bs) = _ := newTargets_cons_new ⟨habove, hnew⟩
    rw [heq, hcons, List.map_cons]
    exact List.append_assoc _ _ _
  · have hcons : newTargets p e.seen (b :: bs) = _ := newTargets_cons_old hold
    rw [heq, hcons]
    rfl

theorem foldl_regOperand_xrefs (l : List (OperandDesc × Byte)) (e : Eval) :
    (l.foldl (fun e x => e.regOperand p x.1.name x.2) e).record.xrefs =
      e.record.xrefs ++ (newTargets p e.seen (l.map Prod.snd)).map (fun t : Nat => e.edge t) := by
  induction l generalizing e with
  | nil => simp [newTargets]
  | cons x l ih =>
    rw [List.foldl_cons, ih, List.map_cons, ← regOperand_newTargets x.1.name]
    simp only [Eval.regOperand_edge]

/-! ## The record of a walk -/

/-- PLAIN(n-1) and one more operand, over operand bytes that hold the registers `regs` at their end
in reverse (spec/30_encoding.md R77, spec/40_resolution.md R126). -/
theorem plainThen_record (hops : f.ops.reverse = regs ++ tail)
    (hnames : f.t.ops.map OperandDesc.name = names ++ [last]) (hlen : names.length = regs.length)
    (v : OperandVal) (e : Eval) :
    (plainThen v p f e).record = { e.record with
      operands := e.record.operands ++
        ((names.zip regs).map (fun x => ⟨x.1, .reg x.2⟩) ++ [⟨last, v⟩])
      xrefs := e.record.xrefs ++ (newTargets p e.seen regs).map (fun t : Nat => e.edge t) } := by
  obtain ⟨ds, d, hd⟩ : ∃ ds d, f.t.ops = ds ++ [d] :=
    (List.eq_nil_or_concat' f.t.ops).resolve_left (by rintro hnil; simp [hnil] at hnames)
  rw [hd, List.map_append] at hnames
  obtain ⟨rfl, hlast⟩ := List.append_inj' hnames rfl
  have hlast : d.name = last := by simpa using hlast
  have hn : f.n - 1 = ds.length := by simp [Fetched.n, hd]
  have hzip : (f.t.ops.take (f.n - 1)).zip f.ops.reverse = ds.zip regs := by
    have hlen' : ds.length = regs.length := by simpa using hlen
    rw [hn, hd, hops, List.take_left]
    simpa using List.zip_append hlen' (r₁ := []) (r₂ := tail)
  have hlastName : f.lastName = last := by simp [Fetched.lastName, hd, hlast]
  have hplain := plain_frame (p := p) (f := f) (e := e) (f.n - 1)
  have hxrefs : (plain p (f.n - 1) f e).record.xrefs =
      e.record.xrefs ++ (newTargets p e.seen regs).map (fun t : Nat => e.edge t) := by
    unfold plain
    rw [foldl_regOperand_xrefs, hzip, List.map_snd_zip (by simpa using hlen.ge)]
  rw [plain_operands, hzip, hxrefs] at hplain
  simp only [plainThen, Eval.operand]
  rw [hplain, hlastName, List.append_assoc, List.zip_map_left, List.map_map]
  rfl

/-- The record of an instruction whose resolver ends a walk of the registers `regs` with the operand
`v`. -/
theorem decodeRecord_says_plainThen
    (hres : res p f ⟨initRecord addr f, []⟩ = some (plainThen v p f ⟨initRecord addr f, []⟩))
    (hops : f.ops.reverse = regs ++ tail)
    (hnames : f.t.ops.map OperandDesc.name = names ++ [last]) (hlen : names.length = regs.length)
    (hdeclares : declares f.t (List.replicate regs.length .reg ++ [v.tag]) = true)
    (hraw : f.raw.length = finalLength f.t f.signed f.modeBit) (hreserved : f.t.reserved = false) :
    (decodeRecord p addr f res).says p addr
      { opcode := f.opcode, signed := f.signed, mnemonic := adjustedMnemonic f.t f.signed,
        mode := refinedMode f.t f.modeBit,
        operands := (names.zip regs).map (fun x => ⟨x.1, .reg x.2⟩) ++ [⟨last, v⟩],
        raw := f.raw, regs := regs, variableLength := f.t.variableLength,
        autoIncrement := autoIncrementFlag f.t f.modeBit, ignore := f.t.ignore } := by
  have hne : f.t.ops ≠ [] := by rintro hnil; simp [hnil] at hnames
  have hn : f.n = regs.length + 1 := by
    rw [Fetched.n, ← List.length_map (f := OperandDesc.name), hnames, List.length_append, hlen]
    rfl
  have hL : f.n ≤ f.L + 1 := by
    have hbytes := congrArg List.length hops
    rw [List.length_reverse, List.length_append] at hbytes
    rw [hn, Fetched.L, hbytes]
    omega
  have hdeclared := operandsDeclared_of_named
    (plainThen_named (p := p) (e := ⟨initRecord addr f, []⟩) (v := v) rfl hne hL
      (by rw [hn]; exact List.mem_singleton.mpr rfl))
    (by simpa using hdeclares) ((initRecord_writes p addr f).plainThen v)
  have hrecord := plainThen_record (p := p) hops hnames hlen v ⟨initRecord addr f, []⟩
  rw [decodeRecord_handled p addr f res _ hne hres]
  rw [hrecord] at hdeclared ⊢
  refine ⟨rfl, rfl, rfl, rfl, rfl, hraw.symm, ?_, rfl, hdeclared, rfl, rfl, rfl, rfl, rfl, rfl,
    hreserved, rfl, ?_, rfl, rfl⟩
  · exact hn.trans (by simp [hlen])
  · dsimp only
    rw [newTargets_empty]
    rfl

/-! ## Indexed rows -/

/-- A template of mode `indexed` whose operands are registers with these names and then a memory
operand (spec/30_encoding.md R75, R78). -/
structure IndexedTemplate (t : Template) (mnemonic : String) (names : List String) (last : String) :
    Prop where
  mnemonic       : t.mnemonic = mnemonic
  length         : t.length = names.length + 3
  mode           : t.mode = .indexed
  variableLength : t.variableLength = true
  ignore         : t.ignore = false
  reserved       : t.reserved = false
  varNames       : t.ops.map OperandDesc.name = names ++ [last]
  varTypes       : t.ops.map OperandDesc.varTypes =
    List.replicate names.length [.reg] ++ [[.sidx, .lidx]]

/-- The mode that an offset of this width belongs to (spec/30_encoding.md R81). -/
def offsetMode : IndexOffset → Mode
  | .byte _ => .shortIndexed
  | .word _ => .longIndexed

/-- The memory operand over the masked base byte (spec/40_resolution.md R130, R131). -/
def offsetValue (base : Byte) : IndexOffset → OperandVal
  | .byte off => .sidx base off
  | .word off => .lidx base off

variable {t : Template} {mnemonic : String} {opcode base : Byte} {off : IndexOffset} {i : Instr}
  {s : State}

theorem IndexedTemplate.declares_offset (ht : IndexedTemplate t mnemonic names last)
    (base : Byte) (off : IndexOffset) :
    declares t (List.replicate names.length .reg ++ [(offsetValue base off).tag]) = true := by
  have hlength : t.ops.length = names.length + 1 := by
    rw [← List.length_map (f := OperandDesc.name), ht.varNames, List.length_append]
    rfl
  have hlast : (offsetValue base off).tag ∈ [Tag.sidx, Tag.lidx] := by
    cases off <;> simp [offsetValue, OperandVal.tag]
  rw [declares, ht.varTypes, List.zip_append (by simp), List.zip_replicate, List.all_append]
  simp [hlength, hlast]

/-- The mode bit of a row's bytes is bit 0 of the base byte, which selects the width of the offset
(spec/30_encoding.md R80, R81). -/
theorem IndexedTemplate.modeBit (ht : IndexedTemplate t mnemonic names last)
    (bytes : List Byte) :
    (Fetched.ofRow p t false opcode (base :: bytes)).modeBit = bit0 base := by
  simp [Fetched.ofRow, modeBitOf, needsModeByte, ht.mode, ht.variableLength, rowBytes,
    modeByteIndex]

theorem IndexedTemplate.refinedMode (ht : IndexedTemplate t mnemonic names last)
    (hfits : indexFits base off = true) : refinedMode t (bit0 base) = offsetMode off := by
  cases off <;>
    simp_all [indexFits, IndexOffset.fits, Machine.refinedMode, ht.mode, ht.variableLength,
      offsetMode]

theorem IndexedTemplate.finalLength (ht : IndexedTemplate t mnemonic names last)
    (hfits : indexFits base off = true) :
    finalLength t false (bit0 base) = names.length + 2 + (offsetBytes off).length := by
  cases off <;>
    simp_all [indexFits, IndexOffset.fits, Machine.finalLength, isLongIndexed, ht.mode,
      ht.variableLength, ht.length, offsetBytes]

/-- SINDEXED or LINDEXED by the width of the offset (spec/40_resolution.md R130, R131). -/
theorem resolveIndexed_offset (hops : f.ops = base :: offsetBytes off ++ regs)
    (hn : f.n = regs.length + 1) (hmode : e.record.mode = offsetMode off) :
    resolveIndexed p f e = some (plainThen (offsetValue (base &&& p.indPtrMask) off) p f e) := by
  have hop : ∀ k, f.op k = (base :: offsetBytes off ++ regs).getD k 0 := fun k => by
    rw [Fetched.op, hops]
  cases off with
  | byte o =>
    have hL : f.L = f.n + 1 := by rw [Fetched.L, hops, hn]; rfl
    simp [resolveIndexed, hmode, offsetMode, resolveShortIndexed, hL, hop, offsetBytes, offsetValue]
  | word w =>
    have hL : f.L = f.n + 2 := by rw [Fetched.L, hops, hn]; rfl
    simp [resolveIndexed, hmode, offsetMode, resolveLongIndexed, hL, hop, offsetBytes, offsetValue]

/-- An unsigned indexed row completes: registers, and the memory operand that the width of the
offset gives, which bit 0 of the base byte selects. -/
theorem indexed_completes (ht : IndexedTemplate t mnemonic names last)
    (hexec : exec i s = runRow s t false opcode (base :: offsetBytes off ++ regs.reverse)
      resolveIndexed)
    (hlen : names.length = regs.length) (hfits : indexFits base off = true) :
    Completes i s
      { opcode, mnemonic, mode := offsetMode off, variableLength := true,
        operands := (names.zip regs).map (fun x => ⟨x.1, .reg x.2⟩) ++
          [⟨last, offsetValue (base &&& s.cfg.indPtrMask) off⟩],
        raw := opcode :: base :: offsetBytes off ++ regs.reverse, regs } := by
  let f := Fetched.ofRow s.cfg t false opcode (base :: offsetBytes off ++ regs.reverse)
  have hops : f.ops = base :: offsetBytes off ++ regs.reverse := Fetched.ofRow_ops ..
  have hbit : f.modeBit = bit0 base := ht.modeBit _
  have hmode : Machine.refinedMode f.t f.modeBit = offsetMode off := by
    rw [hbit]
    exact ht.refinedMode hfits
  have hn : f.n = regs.reverse.length + 1 := by
    rw [Fetched.n, ← List.length_map (f := OperandDesc.name), List.length_reverse, ← hlen]
    exact (congrArg List.length ht.varNames).trans List.length_append
  refine ⟨_, hexec.trans (runRow_eq ..), ?_⟩
  have hsays := decodeRecord_says_plainThen (addr := s.addr) (res := resolveIndexed) (regs := regs)
    (tail := (base :: offsetBytes off).reverse)
    (resolveIndexed_offset (p := s.cfg) hops hn hmode) (by simp [hops]) ht.varNames hlen
    (hlen ▸ ht.declares_offset _ _)
    (by
      rw [hbit]
      refine Eq.trans ?_ (ht.finalLength hfits).symm
      simp [f, rowBytes, hlen]
      omega)
    ht.reserved
  rw [hmode] at hsays
  have hauto : autoIncrementFlag f.t f.modeBit = false := by
    simp [autoIncrementFlag, f, ht.mode]
  rw [hauto] at hsays
  simpa [f, ht.mnemonic, ht.variableLength, ht.ignore, adjustedMnemonic, rowBytes] using hsays

theorem indexFits_byte {b : Byte} (h : bit0 base = false) : indexFits base (.byte b) = true := by
  simp [indexFits, IndexOffset.fits, h]

theorem indexFits_word {w : Word} (h : bit0 base = true) : indexFits base (.word w) = true := h

/-- A constructor with three operands whose meaning is that of an indexed row. -/
def IsIndexedRow3 (mk : Byte → Byte → Byte → IndexOffset → Instr) (opcode : Byte)
    (mnemonic : String) : Prop :=
  ∃ t, (∀ dst src1 base off s, exec (mk dst src1 base off) s =
      runRow s t false opcode (base :: offsetBytes off ++ [src1, dst]) resolveIndexed) ∧
    IndexedTemplate t mnemonic ["dst", "src1"] "src2"

/-- A constructor with two operands whose meaning is that of an indexed row. -/
def IsIndexedRow2 (mk : Byte → Byte → IndexOffset → Instr) (opcode : Byte) (mnemonic : String) :
    Prop :=
  ∃ t, (∀ dst base off s, exec (mk dst base off) s =
      runRow s t false opcode (base :: offsetBytes off ++ [dst]) resolveIndexed) ∧
    IndexedTemplate t mnemonic ["dst"] "src"

/-- Settles O53: each row's meaning is that of an indexed row, by its definition, and an indexed row
completes with the offset that bit 0 of the base byte selects. -/
theorem middleIndexed : Obligations.MiddleIndexed := by
  constructor
  · intro x hx s dst src1 base
    have hrow : IsIndexedRow3 x.1 x.2.1 x.2.2 := by
      fin_cases hx <;> exact ⟨_, fun _ _ _ _ _ => rfl, rfl, rfl, rfl, rfl, rfl, rfl, rfl, rfl⟩
    obtain ⟨t, hexec, ht⟩ := hrow
    have hcompletes : ∀ off, indexFits base off = true → _ := fun off =>
      indexed_completes ht (regs := [dst, src1]) (hexec dst src1 base off s) rfl
    exact ⟨fun hbase off => hcompletes (.byte off) (indexFits_byte hbase),
      fun hbase off => hcompletes (.word off) (indexFits_word hbase)⟩
  · intro x hx s dst base
    have hrow : IsIndexedRow2 x.1 x.2.1 x.2.2 := by
      fin_cases hx <;> exact ⟨_, fun _ _ _ _ => rfl, rfl, rfl, rfl, rfl, rfl, rfl, rfl, rfl⟩
    obtain ⟨t, hexec, ht⟩ := hrow
    have hcompletes : ∀ off, indexFits base off = true → _ := fun off =>
      indexed_completes ht (regs := [dst]) (hexec dst base off s) rfl
    exact ⟨fun hbase off => hcompletes (.byte off) (indexFits_byte hbase),
      fun hbase off => hcompletes (.word off) (indexFits_word hbase)⟩

end Machine
end Sys2Proof
end

section
/-! SUPPORT. An instruction and its bytes (spec/30_encoding.md R70-R86): what classification yields
for an encoding, which instructions are well formed in terms of the final length, and with both the
round trip between `decode` and `encode`. -/

namespace Sys2Proof
namespace Machine

variable {p : Params} {bytes ops rest : List Byte} {t : Template} {signed : Bool} {opcode b : Byte}
  {i : Instr} {f : Fetched}

/-! ## The mode bit of a row's bytes -/

/-- The mode byte of a row whose operand bytes begin with `b`: `b` itself, but for a signed row
under `literal`, where it is the opcode (spec/30_encoding.md R80). -/
def modeByte (p : Params) (signed : Bool) (opcode b : Byte) : Byte :=
  if signed && p.signedModeByte == .literal then opcode else b

theorem modeByte_unsigned : modeByte p false opcode b = b := rfl

theorem modeByte_operand (h : p.signedModeByte = .operand) : modeByte p signed opcode b = b := by
  simp [modeByte, h]

theorem modeBitOf_rowBytes :
    modeBitOf p t signed (rowBytes p signed opcode (b :: ops)) =
      (needsModeByte t && bit0 (modeByte p signed opcode b)) := by
  cases signed <;> cases h : p.signedModeByte <;>
    simp [modeBitOf, rowBytes, modeByteIndex, modeByte, h]

theorem modeByteIndex_le (p : Params) (signed : Bool) :
    modeByteIndex p signed ≤ 1 + signed.toNat := by
  cases signed <;> cases h : p.signedModeByte <;> simp [modeByteIndex, h]

/-- The length of a template covers its mode byte. -/
theorem modeByteIndex_lt {n : Nat} (ht : coversModeByte t = true) (hneeds : needsModeByte t = true)
    (hn : t.length + signed.toNat ≤ n) : modeByteIndex p signed < n := by
  have hlen : 1 ≤ t.length ∧ 2 ≤ t.length := by simpa [coversModeByte, hneeds] using ht
  have hidx := modeByteIndex_le p signed
  omega

/-! ## Well-formedness as a length -/

/-- What classification yields for the instruction's own bytes. -/
def fetchedOf (p : Params) (i : Instr) : Fetched :=
  Fetched.ofRow p (instrRow i).t (instrRow i).signed (instrRow i).opcode (operandBytes i)

@[simp] theorem fetchedOf_ops (p : Params) (i : Instr) : (fetchedOf p i).ops = operandBytes i :=
  Fetched.ofRow_ops ..

/-- The encoding has the final length of the row's template under its own mode bit
(spec/30_encoding.md R86). -/
def HasFinalLength (p : Params) (i : Instr) : Prop :=
  (encode p i).length =
    finalLength (instrRow i).t (instrRow i).signed (fetchedOf p i).modeBit

/-- A fetched indexed row has its final length exactly when the width of its offset is the one its
mode bit selects (spec/30_encoding.md R81). -/
theorem indexed_length_iff {base : Byte} {off : IndexOffset} {regs : List Byte}
    (hmode : t.mode = .indexed) (hvar : t.variableLength = true)
    (hlen : t.length = regs.length + 3) :
    (rowBytes p signed opcode (base :: offsetBytes off ++ regs)).length =
        finalLength t signed (modeBitOf p t signed
          (rowBytes p signed opcode (base :: offsetBytes off ++ regs))) ↔
      off.fits (bit0 (modeByte p signed opcode base)) = true := by
  rw [List.cons_append, modeBitOf_rowBytes]
  have hneeds : needsModeByte t = true := by simp [needsModeByte, hmode, hvar]
  have hlong : ∀ m, isLongIndexed t m = m := by simp [isLongIndexed, hmode, hvar]
  rw [hneeds, Bool.true_and, finalLength, hlong, hlen]
  cases signed <;> cases off <;> cases bit0 (modeByte p _ opcode base) <;>
    simp [rowBytes, offsetBytes, IndexOffset.fits]

/-- An indexed row whose only operand is the memory operand. -/
theorem indexed_length_iff_single {base : Byte} {off : IndexOffset} (hmode : t.mode = .indexed)
    (hvar : t.variableLength = true) (hlen : t.length = 3) :
    (rowBytes p signed opcode (base :: offsetBytes off)).length =
        finalLength t signed (modeBitOf p t signed
          (rowBytes p signed opcode (base :: offsetBytes off))) ↔
      off.fits (bit0 (modeByte p signed opcode base)) = true := by
  simpa using indexed_length_iff (regs := []) hmode hvar hlen

/-- Every signed indexed opcode has its bit 0 set, so that `literal` selects long-indexed
(spec/49_middle_group_signed.md R359). -/
theorem signedIndexFits_eq {base : Byte} {off : IndexOffset} (hopcode : bit0 opcode = true) :
    signedIndexFits p base off = off.fits (bit0 (modeByte p true opcode base)) := by
  cases h : p.signedModeByte <;> simp [signedIndexFits, modeByte, h, hopcode]

theorem signedIndexFits_iff_length {base : Byte} {off : IndexOffset} {regs : List Byte}
    (hmode : t.mode = .indexed) (hvar : t.variableLength = true)
    (hlen : t.length = regs.length + 3) (hopcode : bit0 opcode = true) :
    signedIndexFits p base off = true ↔
      (rowBytes p true opcode (base :: offsetBytes off ++ regs)).length =
        finalLength t true (modeBitOf p t true
          (rowBytes p true opcode (base :: offsetBytes off ++ regs))) := by
  rw [signedIndexFits_eq hopcode]
  exact (indexed_length_iff hmode hvar hlen).symm

/-- The well-formed instructions are those whose encoding has its final length: by the width of the
offset for the indexed rows, and for every other row always. -/
theorem wf_iff_hasFinalLength (p : Params) (i : Instr) : i.wf p = true ↔ HasFinalLength p i := by
  cases i with
  | mul3Idx | mulb3Idx | mulIdx | mulbIdx | divIdx | divbIdx =>
    exact signedIndexFits_iff_length rfl rfl rfl (by simp [instrRow, bit0])
  | pushIdx | popIdx => exact (indexed_length_iff_single (signed := false) rfl rfl rfl).symm
  | xchIdx | xchbIdx | and3Idx | add3Idx | sub3Idx | mulu3Idx | andb3Idx | addb3Idx | subb3Idx
  | mulub3Idx | andIdx | addIdx | subIdx | muluIdx | andbIdx | addbIdx | subbIdx | mulubIdx | orIdx
  | xorIdx | cmpIdx | divuIdx | orbIdx | xorbIdx | cmpbIdx | divubIdx | ldIdx | addcIdx | subcIdx
  | ldbzeIdx | ldbIdx | addcbIdx | subcbIdx | ldbseIdx | stIdx | stbIdx =>
    exact (indexed_length_iff (signed := false) rfl rfl rfl).symm
  | _ => exact iff_of_true rfl rfl

/-! ## The round trip -/

theorem modeBitOf_append (ht : coversModeByte t = true)
    (hlen : t.length + signed.toNat ≤ bytes.length) (rest : List Byte) :
    modeBitOf p t signed (bytes ++ rest) = modeBitOf p t signed bytes := by
  rw [← modeBitOf_take ht hlen, List.take_left]

/-- A row's bytes are looked up in the table that SIGNED_PREFIX selects
(spec/30_encoding.md R72). -/
theorem classify_rowBytes (hprefix : signed = false → opcode ≠ p.signedPrefix) :
    ∃ first, classify p (rowBytes p signed opcode ops) =
      classifyAt p first signed opcode (rowBytes p signed opcode ops) := by
  cases signed with
  | false => exact ⟨opcode, by simp [rowBytes, classify, hprefix]⟩
  | true => exact ⟨p.signedPrefix, by simp [rowBytes, classify]⟩

/-- Bytes long enough for the template found are sliced at the final length
(spec/30_encoding.md R85). -/
theorem classifyAt_eq_fetched {first : Byte} {n : Nat} (ht : coversModeByte t = true)
    (hlookup : lookupTemplate p signed opcode = some t)
    (hn : finalLength t signed (modeBitOf p t signed bytes) = n) (hlen : n ≤ bytes.length) :
    classifyAt p first signed opcode bytes = .fetched
      { t, signed, opcode, modeBit := modeBitOf p t signed bytes, raw := bytes.take n } := by
  have hmode : ¬ (needsModeByte t = true ∧ bytes.length ≤ modeByteIndex p signed) := by
    rintro ⟨hneeds, hshort⟩
    refine absurd (modeByteIndex_lt ht hneeds ?_) hshort.not_gt
    unfold finalLength at hn
    omega
  simp only [classifyAt, hlookup, Bool.and_eq_true, decide_eq_true_eq, hmode, if_false, hn,
    hlen.not_gt]

/-- A well-formed instruction's bytes classify to it, whatever follows them. -/
theorem classify_encode (hwf : i.wf p = true) (htables : i.inTables p) (rest : List Byte) :
    classify p (encode p i ++ rest) = .fetched (fetchedOf p i) := by
  obtain ⟨hlookup, hprefix⟩ := htables
  have hlen : (encode p i).length = finalLength _ _ _ := (wf_iff_hasFinalLength p i).mp hwf
  have hcovers := instrRow_coversModeByte i
  have hmode : modeBitOf p (instrRow i).t (instrRow i).signed (encode p i ++ rest) =
      (fetchedOf p i).modeBit :=
    modeBitOf_append hcovers (by rw [hlen, finalLength]; omega) rest
  have hbytes : encode p i ++ rest =
      rowBytes p (instrRow i).signed (instrRow i).opcode (operandBytes i ++ rest) := by
    simp [encode, rowBytes]
  obtain ⟨first, hclass⟩ := classify_rowBytes (ops := operandBytes i ++ rest) hprefix
  rw [← hbytes] at hclass
  rw [hclass, classifyAt_eq_fetched hcovers hlookup ((hmode ▸ hlen).symm)
    (by rw [List.length_append]; omega), hmode, List.take_left]
  rfl

/-! ### Each layout reads back the bytes that `operandBytes` writes

The other direction of `immW1_some` to `disp24_some`, for the layouts that join bytes or choose
between widths (spec/30_encoding.md R78, R79). -/

theorem immW1_own {mk : Word → Instr} {w : Word} {o : Option Instr}
    (h : o = immW1 mk [byteOf w 0, byteOf w 1]) : o = some (mk w) :=
  h.trans (by simp [immW1])

theorem immW2_own {mk : Byte → Word → Instr} {w : Word} {d0 : Byte} {o : Option Instr}
    (h : o = immW2 mk [byteOf w 0, byteOf w 1, d0]) : o = some (mk d0 w) :=
  h.trans (by simp [immW2])

theorem immW3_own {mk : Byte → Byte → Word → Instr} {w : Word} {d1 d0 : Byte} {o : Option Instr}
    (h : o = immW3 mk [byteOf w 0, byteOf w 1, d1, d0]) : o = some (mk d0 d1 w) :=
  h.trans (by simp [immW3])

theorem idx1_own {mk : Byte → IndexOffset → Instr} {base : Byte} {off : IndexOffset}
    {o : Option Instr} (h : o = idx1 mk (base :: offsetBytes off)) : o = some (mk base off) :=
  h.trans (by cases off <;> simp [idx1, offsetBytes])

theorem idx2_own {mk : Byte → Byte → IndexOffset → Instr} {base d0 : Byte} {off : IndexOffset}
    {o : Option Instr} (h : o = idx2 mk (base :: offsetBytes off ++ [d0])) :
    o = some (mk d0 base off) :=
  h.trans (by cases off <;> simp [idx2, offsetBytes])

theorem idx3_own {mk : Byte → Byte → Byte → IndexOffset → Instr} {base d1 d0 : Byte}
    {off : IndexOffset} {o : Option Instr}
    (h : o = idx3 mk (base :: offsetBytes off ++ [d1, d0])) : o = some (mk d0 d1 base off) :=
  h.trans (by cases off <;> simp [idx3, offsetBytes])

theorem eidx_own {mk : Byte → Byte → BitVec 24 → Instr} {ptr d0 : Byte} {disp : BitVec 24}
    {o : Option Instr} (h : o = eidx mk [ptr, byteOf disp 0, byteOf disp 1, byteOf disp 2, d0]) :
    o = some (mk d0 ptr disp) :=
  h.trans (by simp [eidx])

theorem disp24_own {mk : BitVec 24 → Instr} {disp : BitVec 24} {o : Option Instr}
    (h : o = disp24 mk [byteOf disp 0, byteOf disp 1, byteOf disp 2]) : o = some (mk disp) :=
  h.trans (by simp [disp24])

/-- The opcode and operand bytes of an instruction are read back as that instruction. -/
theorem buildInstr_own (i : Instr) :
    buildInstr (instrRow i).signed (instrRow i).opcode (operandBytes i) = some i := by
  cases i
  case sjmp disp => exact Laws.Encodes.sjmp disp
  case scall disp => exact Laws.Encodes.scall disp
  case jbc bitno reg disp => exact Laws.Encodes.jbc bitno reg disp
  case jbs bitno reg disp => exact Laws.Encodes.jbs bitno reg disp
  all_goals dsimp only [instrRow, operandBytes]
  case pushImm | ljmp | lcall => exact immW1_own rfl
  case andImm | addImm | subImm | muluImm | orImm | xorImm | cmpImm | divuImm | ldImm | addcImm
    | subcImm | mulImm | divImm => exact immW2_own rfl
  case and3Imm | add3Imm | sub3Imm | mulu3Imm | mul3Imm => exact immW3_own rfl
  case pushIdx | popIdx => exact idx1_own rfl
  case xchIdx | xchbIdx | andIdx | addIdx | subIdx | muluIdx | andbIdx | addbIdx | subbIdx
    | mulubIdx | orIdx | xorIdx | cmpIdx | divuIdx | orbIdx | xorbIdx | cmpbIdx | divubIdx | ldIdx
    | addcIdx | subcIdx | ldbzeIdx | ldbIdx | addcbIdx | subcbIdx | ldbseIdx | stIdx | stbIdx
    | mulIdx | mulbIdx | divIdx | divbIdx => exact idx2_own rfl
  case and3Idx | add3Idx | sub3Idx | mulu3Idx | andb3Idx | addb3Idx | subb3Idx | mulub3Idx
    | mul3Idx | mulb3Idx => exact idx3_own rfl
  case estEIdx | estbEIdx | eldEIdx | eldbEIdx => exact eidx_own rfl
  case ejmp | ecall => exact disp24_own rfl
  all_goals rfl

theorem rowInstr_fetchedOf (p : Params) (i : Instr) : rowInstr (fetchedOf p i) = some i := by
  have hbuild : buildInstr (fetchedOf p i).signed (fetchedOf p i).opcode (fetchedOf p i).ops =
      some i := by
    rw [fetchedOf_ops]
    exact buildInstr_own i
  rw [rowInstr, hbuild]
  exact if_pos rfl

/-- Settles O11: the encoding classifies to the instruction's own row, from which the instruction is
built. -/
theorem decodeOfEncode : Obligations.DecodeOfEncode := by
  intro p i rest hwf htables
  rw [decode, classify_encode hwf htables rest]
  dsimp only
  rw [rowInstr_fetchedOf]

/-- What decodes to an instruction has the instruction's own row in front. -/
theorem fetchedOf_of_decode (h : decode p bytes = .instr i) :
    FetchedFrom p bytes (fetchedOf p i) := by
  obtain ⟨f, hclass, hbuild, ht⟩ := decode_instr h
  obtain ⟨hsigned, hopcode, hops⟩ := buildInstr_some hbuild
  have hfetched := fetchedFrom_of_classify hclass
  rw [fetchedOf, ht, hsigned, hopcode, hops,
    hfetched.ofRow_eq (ht ▸ instrRow_coversModeByte i)]
  exact hfetched

/-- Settles O12: the instruction's own row is what was fetched, and a fetched row has its final
length. -/
theorem encodeOfDecode : Obligations.EncodeOfDecode := by
  intro p bytes i h
  have hfetched := fetchedOf_of_decode h
  obtain ⟨n, hfront⟩ : ∃ n, encode p i = bytes.take n := ⟨_, hfetched.raw⟩
  refine ⟨(wf_iff_hasFinalLength p i).mpr hfetched.raw_length,
    ⟨hfetched.lookup, hfetched.unsigned⟩, bytes.drop n, ?_⟩
  rw [hfront, List.take_append_drop]

/-- Settles O10: the meaning of each constructor agrees with the group of its opcode
(`exec_eq_runRow_group`), and so a step with the table-driven decoder. -/
theorem stepIsReferenceDecoder : Obligations.StepIsReferenceDecoder :=
  fun _ hfit => step_eq_reference hfit

end Machine
end Sys2Proof
end

section
/-! SUPPORT. The length and the mode of a fetched instruction (spec/30_encoding.md R80-R86, R90) and
the default tables (R75, R76, R89, R91; spec/70_reset_and_hazards.md R402). -/

namespace Sys2Proof
namespace Machine

variable {p : Params} {bytes bytes' : List Byte} {t : Template} {signed modeBit : Bool}
  {f : Fetched}

/-! ## Length and mode of a template -/

theorem finalLength_indexed (hmode : t.mode = .indexed) (hvar : t.variableLength = true) :
    finalLength t signed modeBit = t.length + modeBit.toNat + signed.toNat := by
  simp [finalLength, isLongIndexed, hmode, hvar]

theorem finalLength_plain (h : ¬ (t.mode = .indexed ∧ t.variableLength = true)) :
    finalLength t signed modeBit = t.length + signed.toNat := by
  have hlong : isLongIndexed t modeBit = false := by
    simp only [isLongIndexed, Bool.and_eq_false_iff, beq_eq_false_iff_ne]
    grind
  simp [finalLength, hlong]

theorem refinedMode_plain (hind : t.mode ≠ .indirect)
    (h : ¬ (t.mode = .indexed ∧ t.variableLength = true)) : refinedMode t modeBit = t.mode := by
  unfold refinedMode
  split
  case h_1 hmode => rw [if_neg (fun hvar => h ⟨hmode, hvar⟩), hmode]
  case h_2 hmode => exact absurd hmode hind
  case h_3 => rfl

theorem toNat_eq_ite (b : Bool) : b.toNat = if b then 1 else 0 := by
  cases b <;> rfl

/-- Settles O30: the three cases of steps 4 and 5. -/
theorem modeRefinement : Obligations.ModeRefinement := by
  intro t signed modeBit
  refine ⟨?_, ?_, ?_⟩
  · rintro ⟨hmode, hvar⟩
    refine ⟨by simp [refinedMode, hmode, hvar], ?_, by simp [autoIncrementFlag, hmode]⟩
    rw [finalLength_indexed hmode hvar, toNat_eq_ite, toNat_eq_ite]
  · intro hmode
    refine ⟨by simp [refinedMode, hmode], ?_, by simp [autoIncrementFlag, hmode]⟩
    rw [finalLength_plain (by simp [hmode]), toNat_eq_ite]
  · intro hind h
    refine ⟨refinedMode_plain hind h, ?_, by simp [autoIncrementFlag, hind]⟩
    rw [finalLength_plain h, toNat_eq_ite]

/-- The record is long-indexed by step 4 alone, unless the template itself is of that mode. -/
theorem refinedMode_longIndexed_iff :
    (refinedMode t modeBit = .longIndexed ∧ t.mode = .indexed) ↔
      isLongIndexed t modeBit = true := by
  cases hmode : t.mode <;> cases hvar : t.variableLength <;> cases modeBit <;>
    simp [refinedMode, isLongIndexed, hmode, hvar]

/-! ## Three bytes determine the length -/

theorem getD_of_take {n k : Nat} (h : bytes.take n = bytes'.take n) (hk : k < n) :
    bytes.getD k 0 = bytes'.getD k 0 := by
  have hget := congrArg (fun l => l.getD k 0) h
  simpa [List.getD_eq_getElem?_getD, hk] using hget

theorem FetchedFrom.signed_eq (h : FetchedFrom p bytes f) :
    f.signed = (bytes.getD 0 0 == p.signedPrefix) := by
  obtain ⟨rest, hrest⟩ := h.front
  have hunsigned := h.unsigned
  cases hs : f.signed <;> simp_all [rowBytes]

theorem FetchedFrom.opcode_eq (h : FetchedFrom p bytes f) :
    f.opcode = bytes.getD f.signed.toNat 0 := by
  obtain ⟨rest, hrest⟩ := h.front
  cases hs : f.signed <;> simp [hrest, hs, rowBytes]

/-- Settles O15: SIGNED_PREFIX, the opcode and the mode byte are among the first three bytes, and
the length is a function of the template and these. -/
theorem lengthFromThreeBytes : Obligations.LengthFromThreeBytes := by
  intro p bytes bytes' f f' hthree hclass hclass'
  have h := fetchedFrom_of_classify hclass
  have h' := fetchedFrom_of_classify hclass'
  have hsigned : f.signed = f'.signed := by
    rw [h.signed_eq, h'.signed_eq, getD_of_take hthree (by omega)]
  have hopcode : f.opcode = f'.opcode := by
    rw [h.opcode_eq, h'.opcode_eq, hsigned, getD_of_take hthree (by cases f'.signed <;> simp)]
  have ht : f.t = f'.t := by
    have hlookup := h.lookup
    rw [hsigned, hopcode, h'.lookup] at hlookup
    exact (Option.some.inj hlookup).symm
  have hmodeBit : f.modeBit = f'.modeBit := by
    have hidx := modeByteIndex_le_two p f'.signed
    rw [h.modeBit, h'.modeBit, ht, hsigned, modeBitOf, modeBitOf, getD_of_take hthree (by omega)]
  refine ⟨?_, ht, hsigned, hopcode, hmodeBit⟩
  rw [h.raw_length, h'.raw_length, ht, hsigned, hmodeBit]

/-! ## The default tables -/

theorem defaultTables_wf : tablesWf defaultParams = true := by
  decide +kernel

/-- L is at least n, but for the bit tests, whose second operand stands in the opcode
(spec/30_encoding.md R79). -/
theorem defaultTables_bytesPerOperand : (defaultTemplatesU ++ defaultTemplatesS).all (fun x =>
    if x.1.toNat / 16 = 3 then x.2.length == 3 && x.2.ops.length == 3
    else x.2.ops.length + 1 ≤ x.2.length) = true := by
  decide +kernel

/-- The holes of the unsigned table (spec/30_encoding.md R91). -/
theorem lookup_unsigned_none_iff : ∀ b : Byte, lookupTemplate defaultParams false b = none ↔
    b ∈ ([0x10, 0xE5, 0xEE, 0xFE] : List Byte) := by
  decide +kernel

/-- The entries of the signed table (spec/30_encoding.md R76). -/
theorem lookup_signed_isSome_iff : ∀ b : Byte, (lookupTemplate defaultParams true b).isSome = true ↔
    b.toNat % 16 ∈ [12, 13, 14, 15] ∧ b.toNat / 16 ∈ [4, 5, 6, 7, 8, 9] := by
  decide +kernel

theorem lookup_signed_middle {b : Byte} (h : (lookupTemplate defaultParams true b).isSome = true) :
    groupOf b = .middle := by
  obtain ⟨-, hhigh⟩ := (lookup_signed_isSome_iff b).mp h
  simp only [List.mem_cons, List.not_mem_nil, or_false] at hhigh
  exact groupOf_middle b (by omega) (by omega)

/-- Settles O17: by inspection of the default tables. -/
theorem defaultTablesWellFormed : Obligations.DefaultTablesWellFormed := by
  refine ⟨defaultTables_wf, fun x hx => ?_, lookup_unsigned_none_iff, lookup_signed_isSome_iff,
    fun b => lookup_signed_middle⟩
  have hrow := List.all_eq_true.mp defaultTables_bytesPerOperand x hx
  split <;> simpa [*] using hrow

/-- Bytes that are the encoding of an instruction of the default tables. -/
theorem decode_of_encode_eq {i : Instr} (hbytes : encode defaultParams i = bytes)
    (hwf : i.wf defaultParams = true) (htables : i.inTables defaultParams) :
    decode defaultParams bytes = .instr i := by
  simpa [hbytes] using decodeOfEncode defaultParams i [] hwf htables

/-- Settles O18: the words are the encodings of well-formed instructions of the default tables. -/
theorem decodedWords : Obligations.DecodedWords := by
  refine ⟨?_, ?_, ?_, ?_, ?_, ?_, ?_, ?_, ?_, ?_, ?_, ?_, ?_, ?_⟩ <;>
    exact decode_of_encode_eq (by decide) rfl ⟨by decide, by decide⟩

end Machine
end Sys2Proof
end

section
/-! SUPPORT. The record an instruction puts on the output port, from its row alone: completion of
rows without operands (spec/30_encoding.md R87), of rows resolved by the mode
(spec/40_resolution.md R126-R131, R134) and of the low-group walk (spec/47_low_group.md R281). -/

namespace Sys2Proof
namespace Machine

variable {p : Params} {i : Instr} {s : State} {f : Fetched} {e : Eval} {addr : Nat}
  {signed : Bool} {opcode b : Byte} {mnemonic : String} {mode : Mode} {names : List String}
  {last : String} {bytes head regs tail : List Byte} {operands : List Operand} {v : OperandVal}

/-! ## The record of an instruction -/

/-- The record that the resolver of the opcode's group gives for the instruction's own bytes
(spec/30_encoding.md R88). -/
def recordOf (p : Params) (addr : Nat) (i : Instr) : Record :=
  decodeRecord p addr (fetchedOf p i) (groupResolver (groupOf (instrRow i).opcode))

theorem exec_eq_recordOf (i : Instr) (s : State) :
    exec i s = .next { s with out := .ok (recordOf s.cfg s.addr i) } := by
  obtain ⟨res, hexec, hagrees⟩ := exec_eq_runRow_group i
  rw [hexec, runRow_eq]
  exact congrArg (fun r => Host.Outcome.next { s with out := Output.ok r })
    (hagrees s.cfg s.addr (fetchedOf s.cfg i).modeBit (fetchedOf s.cfg i).raw)

/-- Every row of the default tables has a length that fits, and operands with the tags its group's
resolver writes: by inspection, and for 0x20-0x3F under every value of the field in the opcode. -/
theorem instrRow_suits_both (i : Instr) :
    (rowSuits (instrRow i).signed (instrRow i).opcode (instrRow i).t false &&
      rowSuits (instrRow i).signed (instrRow i).opcode (instrRow i).t true) = true := by
  cases i with
  | sjmp disp | scall disp =>
    dsimp only [instrRow]
    generalize disp.extractLsb' 8 3 = high
    revert high
    decide +kernel
  | jbc bitno | jbs bitno =>
    dsimp only [instrRow]
    revert bitno
    decide +kernel
  | _ => dsimp only [instrRow]; decide +kernel

theorem instrRow_suits (i : Instr) (modeBit : Bool) :
    rowSuits (instrRow i).signed (instrRow i).opcode (instrRow i).t modeBit = true := by
  obtain ⟨hclear, hset⟩ := (Bool.and_eq_true _ _).mp (instrRow_suits_both i)
  cases modeBit
  · exact hclear
  · exact hset

theorem instrRow_reserved (i : Instr) : (instrRow i).t.reserved = false := by
  cases i <;> rfl

theorem fetchedOf_L (hwf : i.wf p = true) : (fetchedOf p i).L =
    finalLength (instrRow i).t (instrRow i).signed (fetchedOf p i).modeBit -
      (if (instrRow i).signed then 2 else 1) := by
  have hlen : (encode p i).length = finalLength _ _ _ := (wf_iff_hasFinalLength p i).mp hwf
  rw [← hlen, Fetched.L, fetchedOf_ops, encode, rowBytes]
  cases (instrRow i).signed <;> simp

/-- The operands of a well-formed instruction have the names and tags its template declares
(spec/10_state.md R29). -/
theorem recordOf_operandsDeclared (hwf : i.wf p = true) (addr : Nat) :
    (recordOf p addr i).operandsDeclared := by
  by_cases hops : (fetchedOf p i).t.ops = []
  · rw [recordOf, decodeRecord_inherent p addr _ _ hops]
    simp [Record.operandsDeclared, initRecord, hops]
  · have hsuits := instrRow_suits i (fetchedOf p i).modeBit
    have hne : (instrRow i).t.ops ≠ [] := hops
    simp only [rowSuits, ← fetchedOf_L hwf, Bool.and_eq_true, Bool.or_eq_true, List.isEmpty_iff,
      hne, false_or, Bool.not_eq_true', List.isEmpty_eq_false_iff] at hsuits
    obtain ⟨-, htags, hlists⟩ := hsuits
    obtain ⟨e, he, hnamed⟩ :=
      groupResolver_resolves (p := p) (e := ⟨initRecord addr (fetchedOf p i), []⟩) rfl hops htags
    obtain ⟨n, -, hwrites⟩ := groupResolver_writes _ p _ _ e (initRecord_writes p addr _) he
    have hrecord := decodeRecord_handled p addr (fetchedOf p i) _ e hops he
    change (decodeRecord p addr (fetchedOf p i)
      (groupResolver (groupOf (fetchedOf p i).opcode))).operandsDeclared
    rw [hrecord]
    exact operandsDeclared_of_named hnamed hlists hwrites

/-- What the row of an instruction says of its record, with these operands and these registers
offered to XREF. -/
def expectedOf (p : Params) (i : Instr) (operands : List Operand) (regs : List Byte) :
    Expected where
  opcode := (instrRow i).opcode
  signed := (instrRow i).signed
  mnemonic := adjustedMnemonic (instrRow i).t (instrRow i).signed
  mode := refinedMode (instrRow i).t (fetchedOf p i).modeBit
  operands := operands
  raw := encode p i
  regs := regs
  variableLength := (instrRow i).t.variableLength
  autoIncrement := autoIncrementFlag (instrRow i).t (fetchedOf p i).modeBit
  ignore := (instrRow i).t.ignore

/-- The edges of XREF for these registers (spec/40_resolution.md R121). -/
def xrefEdges (p : Params) (addr : Nat) (mnemonic : String) (regs : List Byte) : List Edge :=
  (xrefTargets p regs).map fun t : Nat => ⟨addr, t, mnemonic⟩

/-- A well-formed instruction whose resolver writes operands and cross-references alone. -/
theorem completes_of_record (hwf : i.wf s.cfg = true)
    (hrecord : recordOf s.cfg s.addr i = { initRecord s.addr (fetchedOf s.cfg i) with
      operands, checked := true,
      xrefs :=
        xrefEdges s.cfg s.addr (adjustedMnemonic (instrRow i).t (instrRow i).signed) regs }) :
    Completes i s (expectedOf s.cfg i operands regs) := by
  have hdeclared := recordOf_operandsDeclared hwf s.addr
  refine ⟨_, exec_eq_recordOf i s, ?_⟩
  rw [hrecord] at hdeclared ⊢
  have hcount : operands.length = (instrRow i).t.ops.length := by
    obtain ⟨-, hlength, -⟩ := hdeclared
    exact hlength.trans (List.length_map _)
  exact ⟨rfl, rfl, rfl, rfl, rfl, ((wf_iff_hasFinalLength s.cfg i).mp hwf).symm, hcount.symm, rfl,
    hdeclared, rfl, rfl, rfl, rfl, rfl, rfl, instrRow_reserved i, rfl, rfl, rfl, rfl⟩

/-- The record with these operands and cross-reference targets written. -/
def Eval.writing (e : Eval) (w : List Operand × List Nat) : Record :=
  { e.record with
    operands := e.record.operands ++ w.1
    xrefs := e.record.xrefs ++ w.2.map fun t : Nat => e.edge t }

/-- The evaluation a resolver is entered with: the initial record and an empty `seen` set
(spec/10_state.md R36). -/
def startOf (p : Params) (addr : Nat) (i : Instr) : Eval :=
  ⟨initRecord addr (fetchedOf p i), []⟩

/-- A well-formed instruction whose resolver writes these operands and offers these registers. -/
theorem completes_of_resolved (hwf : i.wf s.cfg = true) (hne : (instrRow i).t.ops ≠ [])
    (hres : groupResolver (groupOf (instrRow i).opcode) s.cfg (fetchedOf s.cfg i)
      (startOf s.cfg s.addr i) = some e)
    (hrecord : e.record =
      (startOf s.cfg s.addr i).writing (operands, newTargets s.cfg [] regs)) :
    Completes i s (expectedOf s.cfg i operands regs) := by
  refine completes_of_record hwf ?_
  rw [recordOf, decodeRecord_handled _ _ _ _ _ hne hres, hrecord, newTargets_empty]
  rfl

/-! ## Rows without operands -/

/-- Such a row reaches no resolver (spec/30_encoding.md R87). -/
theorem inherent_completes (hwf : i.wf s.cfg = true) (hops : (instrRow i).t.ops = []) :
    Completes i s (expectedOf s.cfg i [] []) :=
  completes_of_record hwf (decodeRecord_inherent _ _ _ _ hops)

/-- Settles O34: no template of these rows declares an operand. -/
theorem inherentInstructions : Obligations.InherentInstructions := by
  refine ⟨fun x hx s => ?_, fun s => ?_, fun s pad => ?_⟩
  · fin_cases hx <;> exact inherent_completes rfl rfl
  · exact inherent_completes (i := .nop) rfl rfl
  · exact inherent_completes (i := .skip pad) rfl rfl

/-! ## The walk of registers -/

/-- Register operands with these names. -/
def regOperands (names : List String) (regs : List Byte) : List Operand :=
  (names.zip regs).map fun x => ⟨x.1, .reg x.2⟩

/-- The declared operands of PLAIN(c), each with its byte (spec/40_resolution.md R126). -/
def Fetched.walk (f : Fetched) (c : Nat) : List (OperandDesc × Byte) :=
  (f.t.ops.take c).zip f.ops.reverse

/-- The registers of PLAIN(c), and the targets they add to those in `seen`. -/
def Fetched.walkWrites (p : Params) (f : Fetched) (c : Nat) (seen : List Nat) :
    List Operand × List Nat :=
  ((f.walk c).map fun x => ⟨x.1.name, .reg x.2⟩, newTargets p seen ((f.walk c).map Prod.snd))

theorem plain_writing (c : Nat) (e : Eval) :
    (plain p c f e).record = e.writing (f.walkWrites p c e.seen) := by
  have hxrefs : (plain p c f e).record.xrefs = _ := foldl_regOperand_xrefs (f.walk c) e
  rw [plain_frame, plain_operands, hxrefs]
  rfl

theorem plainThen_writing (v : OperandVal) (e : Eval) : (plainThen v p f e).record =
    e.writing ((f.walkWrites p (f.n - 1) e.seen).1 ++ [⟨f.lastName, v⟩],
      (f.walkWrites p (f.n - 1) e.seen).2) := by
  rw [plainThen, Eval.operand, plain_writing]
  simp [Eval.writing]

/-- PLAIN(n), over operand bytes that hold the registers `regs` at their end in reverse
(spec/30_encoding.md R77, spec/40_resolution.md R126). -/
theorem plain_record (hops : f.ops.reverse = regs ++ tail)
    (hnames : f.t.ops.map OperandDesc.name = names) (hlen : names.length = regs.length) (e : Eval) :
    (plain p f.n f e).record = e.writing (regOperands names regs, newTargets p e.seen regs) := by
  have hlen' : f.t.ops.length = regs.length := by rw [← hlen, ← hnames, List.length_map]
  have hwalk : f.walk f.n = f.t.ops.zip regs := by
    rw [Fetched.walk, Fetched.n, List.take_length, hops]
    simpa using List.zip_append hlen' (r₁ := []) (r₂ := tail)
  rw [plain_writing, Fetched.walkWrites, hwalk, List.map_snd_zip hlen'.ge, regOperands, ← hnames,
    List.zip_map_left, List.map_map]
  rfl

theorem reverse_ops (hbytes : operandBytes i = head ++ regs.reverse) :
    (fetchedOf p i).ops.reverse = regs ++ head.reverse := by
  simp [hbytes]

/-- A walk of the registers and one more operand, which is not offered to XREF. -/
theorem plainThen_completes (hwf : i.wf s.cfg = true)
    (hres : groupResolver (groupOf (instrRow i).opcode) s.cfg (fetchedOf s.cfg i)
      (startOf s.cfg s.addr i) =
        some (plainThen v s.cfg (fetchedOf s.cfg i) (startOf s.cfg s.addr i)))
    (hbytes : operandBytes i = head ++ regs.reverse)
    (hnames : (instrRow i).t.ops.map OperandDesc.name = names ++ [last])
    (hlen : names.length = regs.length) :
    Completes i s (expectedOf s.cfg i (regOperands names regs ++ [⟨last, v⟩]) regs) := by
  refine completes_of_resolved hwf ?_ hres (plainThen_record (reverse_ops hbytes) hnames hlen v _)
  rintro hnil
  simp [hnil] at hnames

/-- A walk of registers alone. -/
theorem plain_completes (hwf : i.wf s.cfg = true)
    (hres : groupResolver (groupOf (instrRow i).opcode) s.cfg (fetchedOf s.cfg i)
      (startOf s.cfg s.addr i) =
        some (plain s.cfg (fetchedOf s.cfg i).n (fetchedOf s.cfg i) (startOf s.cfg s.addr i)))
    (hbytes : operandBytes i = head ++ regs.reverse)
    (hnames : (instrRow i).t.ops.map OperandDesc.name = names)
    (hlen : names.length = regs.length) (hne : regs ≠ []) :
    Completes i s (expectedOf s.cfg i (regOperands names regs) regs) := by
  refine completes_of_resolved hwf ?_ hres (plain_record (reverse_ops hbytes) hnames hlen _)
  rintro hnil
  rw [hnil] at hnames
  subst hnames
  exact hne (List.length_eq_zero_iff.mp hlen.symm)

end Machine
end Sys2Proof
end

section
/-! SUPPORT. The rows whose operands are resolved by the mode (spec/40_resolution.md R127-R131,
R134), signed and unsigned, each family of them by one lemma per mode: the middle group and the 0xCx
group (spec/46_cx_group.md, spec/48_middle_group.md, spec/49_middle_group_signed.md); and the walk of
the indexed exchanges (spec/47_low_group.md R281, R287). -/

namespace Sys2Proof
namespace Machine

variable {p : Params} {i : Instr} {s : State} {f : Fetched} {e : Eval}
  {signed bit : Bool} {opcode b : Byte} {mnemonic : String} {mode m : Mode} {names : List String}
  {last : String} {bytes head tail regs : List Byte} {operands : List Operand} {v : OperandVal}

/-! ## The last operand of a row resolved by its mode -/

/-- The operand that the bytes in front of the registers stand for, under the refined mode
(spec/40_resolution.md R128-R131). -/
def frontValue (p : Params) : Mode → List Byte → Option OperandVal
  | .immediate, [v] => some (.imm8 v)
  | .immediate, [lo, hi] => some (.imm16 (le16 lo hi))
  | .indirect, [ptr] => some (.ind (ptr &&& p.indPtrMask))
  | .indirectInc, [ptr] => some (.indInc (ptr &&& p.indPtrMask))
  | .shortIndexed, [base, off] => some (.sidx (base &&& p.indPtrMask) off)
  | .longIndexed, [base, lo, hi] => some (.lidx (base &&& p.indPtrMask) (le16 lo hi))
  | _, _ => none

/-- BYMODE over bytes in front of the registers (spec/40_resolution.md R134). -/
theorem resolveByMode_front (hops : f.ops = head ++ regs) (hn : f.n = regs.length + 1)
    (hv : frontValue p e.record.mode head = some v) :
    resolveByMode p f e = some (plainThen v p f e) := by
  have hL : f.L = head.length + regs.length := by rw [Fetched.L, hops, List.length_append]
  have hop : ∀ k, f.op k = (head ++ regs).getD k 0 := fun k => by rw [Fetched.op, hops]
  unfold frontValue at hv
  split at hv
  case h_1 hmode =>
    have hlen : f.L = f.n := by simp [hL, hn]; omega
    cases hv
    simp [resolveByMode, hmode, resolveImmediate, hlen, hop]
  case h_2 hmode =>
    have hlen : f.L = f.n + 1 := by simp [hL, hn]; omega
    cases hv
    simp [resolveByMode, hmode, resolveImmediate, hlen, hop]
  case h_3 hmode =>
    have hlen : f.L = f.n := by simp [hL, hn]; omega
    cases hv
    simp [resolveByMode, hmode, resolveIndirect, hlen, hop]
  case h_4 hmode =>
    have hlen : f.L = f.n := by simp [hL, hn]; omega
    cases hv
    simp [resolveByMode, hmode, resolveIndirect, hlen, hop]
  case h_5 hmode =>
    have hlen : f.L = f.n + 1 := by simp [hL, hn]; omega
    cases hv
    simp [resolveByMode, hmode, resolveShortIndexed, hlen, hop]
  case h_6 hmode =>
    have hlen : f.L = f.n + 2 := by simp [hL, hn]; omega
    cases hv
    simp [resolveByMode, hmode, resolveLongIndexed, hlen, hop]
  case h_7 => cases hv

/-! ## Rows -/

/-- The instruction's row, as the opcode table gives it, and its operand bytes. -/
structure IsRow (i : Instr) (signed : Bool) (opcode : Byte) (mnemonic : String) (mode : Mode)
    (names : List String) (bytes : List Byte) : Prop where
  signed_eq         : (instrRow i).signed = signed
  opcode_eq         : (instrRow i).opcode = opcode
  mnemonic_eq       : adjustedMnemonic (instrRow i).t signed = mnemonic
  mode_eq           : (instrRow i).t.mode = mode
  variableLength_eq : (instrRow i).t.variableLength = (mode == .indexed)
  ignore_eq         : (instrRow i).t.ignore = false
  names_eq          : (instrRow i).t.ops.map OperandDesc.name = names
  bytes_eq          : operandBytes i = bytes

namespace IsRow

variable (h : IsRow i signed opcode mnemonic mode names bytes)
include h

theorem modeBit_eq (hbytes : bytes = b :: tail) : (fetchedOf p i).modeBit =
    (needsModeByte (instrRow i).t && bit0 (modeByte p signed opcode b)) := by
  rw [fetchedOf, Fetched.ofRow, h.signed_eq, h.opcode_eq, h.bytes_eq, hbytes]
  exact modeBitOf_rowBytes

theorem n_eq : (fetchedOf p i).n = names.length := by
  rw [← h.names_eq, List.length_map]
  rfl

theorem expectedOf_eq (hmode : refinedMode (instrRow i).t (fetchedOf p i).modeBit = m) :
    expectedOf p i operands regs =
      { opcode, signed, mnemonic, mode := m, operands, raw := rowBytes p signed opcode bytes, regs,
        variableLength := mode == .indexed,
        autoIncrement := mode == .indirect && (fetchedOf p i).modeBit } := by
  rw [expectedOf, hmode, encode, autoIncrementFlag, h.signed_eq, h.opcode_eq, h.mnemonic_eq,
    h.mode_eq, h.variableLength_eq, h.ignore_eq, h.bytes_eq]

end IsRow

/-- Only an indexed instruction can be ill-formed (assumption log, entry 11): `wf` is `true` of
every other constructor by definition. -/
theorem wf_of_mode_ne_indexed (h : (instrRow i).t.mode ≠ .indexed) : i.wf p = true := by
  cases i <;> first | rfl | exact absurd rfl h

/-- An indexed row is well formed where its offset has the width the mode bit selects. -/
theorem IsRow.indexed_wf {base : Byte} {off : IndexOffset}
    (h : IsRow i signed opcode mnemonic .indexed names (base :: offsetBytes off ++ regs))
    (hlength : (instrRow i).t.length = regs.length + 3)
    (hfits : off.fits (bit0 (modeByte p signed opcode base)) = true) : i.wf p = true := by
  rw [wf_iff_hasFinalLength, HasFinalLength, encode, fetchedOf, Fetched.ofRow, h.signed_eq,
    h.opcode_eq, h.bytes_eq]
  exact (indexed_length_iff h.mode_eq h.variableLength_eq hlength).mpr hfits

theorem IsRow.indexed_refinedMode {base : Byte} {off : IndexOffset}
    (h : IsRow i signed opcode mnemonic .indexed names (base :: offsetBytes off ++ regs))
    (hfits : off.fits (bit0 (modeByte p signed opcode base)) = true) :
    refinedMode (instrRow i).t (fetchedOf p i).modeBit = offsetMode off := by
  rw [h.modeBit_eq rfl]
  cases off <;>
    simp_all [IndexOffset.fits, refinedMode, needsModeByte, h.mode_eq, h.variableLength_eq,
      offsetMode]

/-- A row whose group resolves its operands by the mode (spec/30_encoding.md R88). -/
structure IsModeRow (i : Instr) (signed : Bool) (opcode : Byte) (mnemonic : String) (mode : Mode)
    (names : List String) (bytes : List Byte) : Prop
    extends IsRow i signed opcode mnemonic mode names bytes where
  byMode : groupResolver (groupOf opcode) = resolveByMode

namespace IsModeRow

/-- Registers, and the operand that the bytes in front of them stand for. -/
theorem front_completes
    (h : IsModeRow i signed opcode mnemonic mode (names ++ [last]) (head ++ regs.reverse))
    (hlen : names.length = regs.length) (hwf : i.wf s.cfg = true)
    (hmode : refinedMode (instrRow i).t (fetchedOf s.cfg i).modeBit = m)
    (hv : frontValue s.cfg m head = some v) :
    Completes i s
      { opcode, signed, mnemonic, mode := m,
        operands := regOperands names regs ++ [⟨last, v⟩],
        raw := rowBytes s.cfg signed opcode (head ++ regs.reverse), regs,
        variableLength := mode == .indexed,
        autoIncrement := mode == .indirect && (fetchedOf s.cfg i).modeBit } := by
  subst hmode
  rw [← h.expectedOf_eq rfl]
  refine plainThen_completes hwf ?_ h.bytes_eq h.names_eq hlen
  rw [h.opcode_eq, h.byMode]
  refine resolveByMode_front (head := head) (regs := regs.reverse) ?_ ?_ hv
  · rw [fetchedOf_ops, h.bytes_eq]
  · rw [h.n_eq, List.length_append, hlen, List.length_reverse]
    rfl

theorem direct_completes (h : IsModeRow i signed opcode mnemonic .direct names regs.reverse)
    (hlen : names.length = regs.length) (hne : regs ≠ []) :
    Completes i s
      { opcode, signed, mnemonic, mode := .direct, operands := regOperands names regs,
        raw := rowBytes s.cfg signed opcode regs.reverse, regs } := by
  have hmode : ∀ modeBit, refinedMode (instrRow i).t modeBit = .direct := by
    simp [refinedMode, h.mode_eq]
  have hwf : i.wf s.cfg = true := wf_of_mode_ne_indexed (by simp [h.mode_eq])
  have hcompletes := plain_completes (s := s) (head := []) hwf ?_ h.bytes_eq h.names_eq hlen hne
  · rwa [h.expectedOf_eq (hmode _)] at hcompletes
  · have hL : (fetchedOf s.cfg i).L = (fetchedOf s.cfg i).n := by
      rw [h.n_eq, hlen, Fetched.L, fetchedOf_ops, h.bytes_eq, List.length_reverse]
    rw [h.opcode_eq, h.byMode, resolveByMode, startOf, initRecord]
    simp only [show (fetchedOf s.cfg i).t = (instrRow i).t from rfl, hmode]
    exact if_pos hL

theorem imm8_completes {imm : Byte}
    (h : IsModeRow i signed opcode mnemonic .immediate (names ++ [last]) (imm :: regs.reverse))
    (hlen : names.length = regs.length) :
    Completes i s
      { opcode, signed, mnemonic, mode := .immediate,
        operands := regOperands names regs ++ [⟨last, .imm8 imm⟩],
        raw := rowBytes s.cfg signed opcode (imm :: regs.reverse), regs } :=
  front_completes (head := [imm]) h hlen (wf_of_mode_ne_indexed (by simp [h.mode_eq]))
    (by simp [refinedMode, h.mode_eq]) rfl

theorem imm16_completes {imm : Word}
    (h : IsModeRow i signed opcode mnemonic .immediate (names ++ [last])
      (byteOf imm 0 :: byteOf imm 1 :: regs.reverse))
    (hlen : names.length = regs.length) :
    Completes i s
      { opcode, signed, mnemonic, mode := .immediate,
        operands := regOperands names regs ++ [⟨last, .imm16 imm⟩],
        raw := rowBytes s.cfg signed opcode (byteOf imm 0 :: byteOf imm 1 :: regs.reverse),
        regs } :=
  front_completes (head := [byteOf imm 0, byteOf imm 1]) h hlen
    (wf_of_mode_ne_indexed (by simp [h.mode_eq])) (by simp [refinedMode, h.mode_eq])
    (by simp [frontValue])

/-- The pointer autoincrements by the mode bit (spec/30_encoding.md R82). -/
theorem indirect_completes {ptr : Byte}
    (h : IsModeRow i signed opcode mnemonic .indirect (names ++ [last]) (ptr :: regs.reverse))
    (hlen : names.length = regs.length) (hbit : bit0 (modeByte s.cfg signed opcode ptr) = bit) :
    Completes i s
      { opcode, signed, mnemonic, mode := indirectMode bit, autoIncrement := bit,
        operands := regOperands names regs ++
          [⟨last, indirectValue bit (ptr &&& s.cfg.indPtrMask)⟩],
        raw := rowBytes s.cfg signed opcode (ptr :: regs.reverse), regs } := by
  have hmodeBit : (fetchedOf s.cfg i).modeBit = bit := by
    rw [h.modeBit_eq rfl, hbit]
    simp [needsModeByte, h.mode_eq]
  have hcompletes := front_completes (head := [ptr]) (m := indirectMode bit)
    (v := indirectValue bit (ptr &&& s.cfg.indPtrMask)) h hlen
    (wf_of_mode_ne_indexed (by simp [h.mode_eq]))
    (by rw [hmodeBit]; simp [refinedMode, h.mode_eq, indirectMode])
    (by cases bit <;> rfl)
  rwa [hmodeBit] at hcompletes

/-- The width of the offset is the one the mode bit selects (spec/30_encoding.md R81). -/
theorem indexed_completes {base : Byte} {off : IndexOffset}
    (h : IsModeRow i signed opcode mnemonic .indexed (names ++ [last])
      (base :: offsetBytes off ++ regs.reverse))
    (hlen : names.length = regs.length) (hlength : (instrRow i).t.length = regs.reverse.length + 3)
    (hfits : off.fits (bit0 (modeByte s.cfg signed opcode base)) = true) :
    Completes i s
      { opcode, signed, mnemonic, mode := offsetMode off, variableLength := true,
        operands := regOperands names regs ++
          [⟨last, offsetValue (base &&& s.cfg.indPtrMask) off⟩],
        raw := rowBytes s.cfg signed opcode (base :: offsetBytes off ++ regs.reverse), regs } :=
  front_completes (head := base :: offsetBytes off) h hlen (h.indexed_wf hlength hfits)
    (h.indexed_refinedMode hfits)
    (by cases off <;> simp [frontValue, offsetMode, offsetBytes, offsetValue])

end IsModeRow

/-! ## The low-group walk -/

/-- PLAIN(n-1) and one more register is PLAIN(n). -/
theorem plain_regOperand_last (hops : f.ops.reverse = regs ++ b :: tail)
    (hn : f.n = regs.length + 1) (e : Eval) :
    (plain p (f.n - 1) f e).regOperand p f.lastName b = plain p f.n f e := by
  obtain ⟨ds, d, hd⟩ : ∃ ds d, f.t.ops = ds ++ [d] :=
    (List.eq_nil_or_concat' f.t.ops).resolve_left (by rintro hnil; simp [Fetched.n, hnil] at hn)
  have hds : ds.length = regs.length := by simpa [Fetched.n, hd] using hn
  have hshort : (ds.zip (regs ++ b :: tail)) = ds.zip regs := by
    simpa using List.zip_append hds (r₁ := []) (r₂ := b :: tail)
  have hlong : (ds ++ [d]).zip (regs ++ b :: tail) = ds.zip regs ++ [(d, b)] := by
    rw [List.zip_append hds]
    rfl
  have htake : (ds ++ [d]).take f.n = ds ++ [d] := List.take_of_length_le (by simp [hn, hds])
  unfold plain
  rw [hn, Nat.add_sub_cancel, ← hn, hops, hd, ← hds, List.take_left, htake, hshort, hlong,
    List.foldl_append]
  simp [Fetched.lastName, hd]

theorem countIsImmediate_eq (hcount : (opcode.getLsbD 3 && opcode != 0x0F) = true) (b : Byte) :
    countIsImmediate opcode b = decide (b.toNat < 16) := by
  rw [countIsImmediate, hcount, Bool.true_and]
  rfl

/-- The walk over bytes in front of the registers: its last operand is the byte `b` next to them
(spec/47_low_group.md R281). -/
theorem resolveLowWalk_front (hops : f.ops = head ++ b :: regs.reverse)
    (hn : f.n = regs.length + 1) (hcount : (f.opcode.getLsbD 3 && f.opcode != 0x0F) = true)
    (e : Eval) :
    resolveLowWalk p f e = some (if b.toNat < 16 then plainThen (.imm8 b) p f e
      else plain p f.n f e) := by
  have hreverse : f.ops.reverse = regs ++ b :: head.reverse := by simp [hops]
  have hL : f.L = head.length + f.n := by simp [Fetched.L, hops, hn]
  have hlast : f.op (f.L - f.n) = b := by
    rw [hL, Nat.add_sub_cancel, Fetched.op, hops]
    simp
  rw [resolveLowWalk, if_pos (by omega), hlast]
  simp only [countIsImmediate_eq hcount, decide_eq_true_eq, plain_regOperand_last hreverse hn,
    plainThen]

/-- A row of the walk, where the last operand may be an immediate (spec/47_low_group.md R280,
R281). -/
theorem IsRow.lowWalk_completes
    (h : IsRow i signed opcode mnemonic mode (names ++ [last]) (head ++ b :: regs.reverse))
    (hgroup : groupOf opcode = .low) (hwalk : ¬ (opcode = 0x1D ∨ opcode = 0x1F))
    (hcount : (opcode.getLsbD 3 && opcode != 0x0F) = true) (hlen : names.length = regs.length)
    (hwf : i.wf s.cfg = true)
    (hmode : refinedMode (instrRow i).t (fetchedOf s.cfg i).modeBit = m) :
    Completes i s
      { opcode, signed, mnemonic, mode := m,
        operands := regOperands names regs ++ [⟨last, countValue b⟩],
        raw := rowBytes s.cfg signed opcode (head ++ b :: regs.reverse),
        regs := if b.toNat < 16 then regs else regs ++ [b],
        variableLength := mode == .indexed,
        autoIncrement := mode == .indirect && (fetchedOf s.cfg i).modeBit } := by
  have hres : ∀ e, groupResolver (groupOf (instrRow i).opcode) s.cfg (fetchedOf s.cfg i) e =
      some (if b.toNat < 16 then plainThen (.imm8 b) s.cfg (fetchedOf s.cfg i) e
        else plain s.cfg (fetchedOf s.cfg i).n (fetchedOf s.cfg i) e) := by
    intro e
    have hopcode : (fetchedOf s.cfg i).opcode = opcode := h.opcode_eq
    rw [h.opcode_eq, hgroup, groupResolver, resolveLow, hopcode, if_neg hwalk]
    refine resolveLowWalk_front (head := head) (regs := regs) ?_ ?_ (hopcode.symm ▸ hcount) e
    · rw [fetchedOf_ops, h.bytes_eq]
    · rw [h.n_eq, List.length_append, hlen]
      rfl
  rw [← h.expectedOf_eq hmode]
  by_cases hb : b.toNat < 16
  · simp only [hb, if_true, countValue] at hres ⊢
    exact plainThen_completes (head := head ++ [b]) hwf (hres _) (by simp [h.bytes_eq]) h.names_eq
      hlen
  · simp only [hb, if_false, countValue] at hres ⊢
    have hsplit : regOperands names regs ++ [⟨last, .reg b⟩] =
        regOperands (names ++ [last]) (regs ++ [b]) := by
      simp [regOperands, List.zip_append hlen]
    rw [hsplit]
    exact plain_completes (head := head) hwf (hres _) (by simp [h.bytes_eq]) h.names_eq
      (by simp [hlen]) (by simp)

/-- Settles O46: the last byte in front of the register is the offset's last one. -/
theorem indexedExchange : Obligations.IndexedExchange := by
  intro x hx s dst base
  have hrow : ∀ off, IsRow (x.1 dst base off) false x.2.1 x.2.2 .indexed ["dst", "src"]
      (base :: offsetBytes off ++ [dst]) := by
    fin_cases hx <;> exact fun _ => ⟨rfl, rfl, rfl, rfl, rfl, rfl, rfl, rfl⟩
  have hlength : ∀ off, (instrRow (x.1 dst base off)).t.length = 4 := by
    fin_cases hx <;> exact fun _ => rfl
  obtain ⟨hgroup, hwalk, hcount⟩ : groupOf x.2.1 = .low ∧ ¬ (x.2.1 = 0x1D ∨ x.2.1 = 0x1F) ∧
      (x.2.1.getLsbD 3 && x.2.1 != 0x0F) = true := by
    fin_cases hx <;> decide
  constructor
  · intro hbase off
    have hfits : IndexOffset.fits (bit0 (modeByte s.cfg false x.2.1 base)) (.byte off) = true := by
      simp [IndexOffset.fits, modeByte_unsigned, hbase]
    exact IsRow.lowWalk_completes (head := [base]) (regs := [dst]) (names := ["dst"])
      (hrow (.byte off)) hgroup hwalk hcount rfl ((hrow _).indexed_wf (hlength _) hfits)
      ((hrow _).indexed_refinedMode hfits)
  · intro hbase off
    have hfits : IndexOffset.fits (bit0 (modeByte s.cfg false x.2.1 base)) (.word off) = true :=
      hbase
    exact IsRow.lowWalk_completes (head := [base, byteOf off 0]) (regs := [dst]) (names := ["dst"])
      (hrow (.word off)) hgroup hwalk hcount rfl ((hrow _).indexed_wf (hlength _) hfits)
      ((hrow _).indexed_refinedMode hfits)

/-! ## Signed rows -/

theorem signedIncrements_eq {ptr : Byte} (hopcode : bit0 opcode = false) :
    bit0 (modeByte p true opcode ptr) = signedIncrements p ptr := by
  cases h : p.signedModeByte <;> simp [signedIncrements, modeByte, h, hopcode]

theorem signedIsLong_eq {base : Byte} (hopcode : bit0 opcode = true) :
    bit0 (modeByte p true opcode base) = signedIsLong p base := by
  cases h : p.signedModeByte <;> simp [signedIsLong, modeByte, h, hopcode]

/-! ## The rows of the middle group -/

/-- Settles O50: each row is a direct row resolved by the mode. -/
theorem middleDirect : Obligations.MiddleDirect := by
  constructor
  · intro x hx s dst src1 src2
    have hrow : IsModeRow (x.1 dst src1 src2) false x.2.1 x.2.2 .direct ["dst", "src1", "src2"]
        [src2, src1, dst] := by
      fin_cases hx <;> exact ⟨⟨rfl, rfl, rfl, rfl, rfl, rfl, rfl, rfl⟩, rfl⟩
    exact hrow.direct_completes (regs := [dst, src1, src2]) rfl (List.cons_ne_nil _ _)
  · intro x hx s dst src
    have hrow : IsModeRow (x.1 dst src) false x.2.1 x.2.2 .direct ["dst", "src"] [src, dst] := by
      fin_cases hx <;> exact ⟨⟨rfl, rfl, rfl, rfl, rfl, rfl, rfl, rfl⟩, rfl⟩
    exact hrow.direct_completes (regs := [dst, src]) rfl (List.cons_ne_nil _ _)

/-- Settles O54: a direct row behind SIGNED_PREFIX, by the same lemma as an unsigned one. -/
theorem signedDirect : Obligations.SignedDirect := by
  constructor
  · intro x hx s dst src1 src2
    have hrow : IsModeRow (x.1 dst src1 src2) true x.2.1 x.2.2 .direct ["dst", "src1", "src2"]
        [src2, src1, dst] := by
      fin_cases hx <;> exact ⟨⟨rfl, rfl, rfl, rfl, rfl, rfl, rfl, rfl⟩, rfl⟩
    exact hrow.direct_completes (regs := [dst, src1, src2]) rfl (List.cons_ne_nil _ _)
  · intro x hx s dst src
    have hrow : IsModeRow (x.1 dst src) true x.2.1 x.2.2 .direct ["dst", "src"] [src, dst] := by
      fin_cases hx <;> exact ⟨⟨rfl, rfl, rfl, rfl, rfl, rfl, rfl, rfl⟩, rfl⟩
    exact hrow.direct_completes (regs := [dst, src]) rfl (List.cons_ne_nil _ _)

/-- Settles O55: the count of bytes in front of the registers is the width of the immediate
(spec/40_resolution.md R128). -/
theorem signedImmediate : Obligations.SignedImmediate := by
  refine ⟨?_, ?_, ?_, ?_⟩
  · intro x hx s dst src1 imm
    have hrow : IsModeRow (x.1 dst src1 imm) true x.2.1 x.2.2 .immediate ["dst", "src1", "src2"]
        [byteOf imm 0, byteOf imm 1, src1, dst] := by
      fin_cases hx; exact ⟨⟨rfl, rfl, rfl, rfl, rfl, rfl, rfl, rfl⟩, rfl⟩
    exact hrow.imm16_completes (names := ["dst", "src1"]) (regs := [dst, src1]) rfl
  · intro x hx s dst src1 imm
    have hrow : IsModeRow (x.1 dst src1 imm) true x.2.1 x.2.2 .immediate ["dst", "src1", "src2"]
        [imm, src1, dst] := by
      fin_cases hx; exact ⟨⟨rfl, rfl, rfl, rfl, rfl, rfl, rfl, rfl⟩, rfl⟩
    exact hrow.imm8_completes (names := ["dst", "src1"]) (regs := [dst, src1]) rfl
  · intro x hx s dst imm
    have hrow : IsModeRow (x.1 dst imm) true x.2.1 x.2.2 .immediate ["dst", "src"]
        [byteOf imm 0, byteOf imm 1, dst] := by
      fin_cases hx <;> exact ⟨⟨rfl, rfl, rfl, rfl, rfl, rfl, rfl, rfl⟩, rfl⟩
    exact hrow.imm16_completes (names := ["dst"]) (regs := [dst]) rfl
  · intro x hx s dst imm
    have hrow : IsModeRow (x.1 dst imm) true x.2.1 x.2.2 .immediate ["dst", "src"] [imm, dst] := by
      fin_cases hx <;> exact ⟨⟨rfl, rfl, rfl, rfl, rfl, rfl, rfl, rfl⟩, rfl⟩
    exact hrow.imm8_completes (names := ["dst"]) (regs := [dst]) rfl

/-- Settles O52: the mode byte of an unsigned row is its pointer byte. -/
theorem middleIndirect : Obligations.MiddleIndirect := by
  constructor
  · intro x hx s dst src1 ptr
    have hrow : IsModeRow (x.1 dst src1 ptr) false x.2.1 x.2.2 .indirect ["dst", "src1", "src2"]
        [ptr, src1, dst] := by
      fin_cases hx <;> exact ⟨⟨rfl, rfl, rfl, rfl, rfl, rfl, rfl, rfl⟩, rfl⟩
    exact hrow.indirect_completes (names := ["dst", "src1"]) (regs := [dst, src1]) rfl rfl
  · intro x hx s dst ptr
    have hrow : IsModeRow (x.1 dst ptr) false x.2.1 x.2.2 .indirect ["dst", "src"] [ptr, dst] := by
      fin_cases hx <;> exact ⟨⟨rfl, rfl, rfl, rfl, rfl, rfl, rfl, rfl⟩, rfl⟩
    exact hrow.indirect_completes (names := ["dst"]) (regs := [dst]) rfl rfl

/-- Settles O56: every signed indirect opcode has its bit 0 clear. -/
theorem signedIndirect : Obligations.SignedIndirect := by
  constructor
  · intro x hx s dst src1 ptr
    have hrow : IsModeRow (x.1 dst src1 ptr) true x.2.1 x.2.2 .indirect ["dst", "src1", "src2"]
        [ptr, src1, dst] := by
      fin_cases hx <;> exact ⟨⟨rfl, rfl, rfl, rfl, rfl, rfl, rfl, rfl⟩, rfl⟩
    have hopcode : bit0 x.2.1 = false := by fin_cases hx <;> rfl
    exact hrow.indirect_completes (names := ["dst", "src1"]) (regs := [dst, src1]) rfl
      (signedIncrements_eq hopcode)
  · intro x hx s dst ptr
    have hrow : IsModeRow (x.1 dst ptr) true x.2.1 x.2.2 .indirect ["dst", "src"] [ptr, dst] := by
      fin_cases hx <;> exact ⟨⟨rfl, rfl, rfl, rfl, rfl, rfl, rfl, rfl⟩, rfl⟩
    have hopcode : bit0 x.2.1 = false := by fin_cases hx <;> rfl
    exact hrow.indirect_completes (names := ["dst"]) (regs := [dst]) rfl
      (signedIncrements_eq hopcode)

/-- The width that `signedIsLong` selects is the one of the mode bit. -/
theorem fits_of_signedIsLong {base : Byte} {off : IndexOffset} (hopcode : bit0 opcode = true)
    (h : off.fits (signedIsLong p base) = true) :
    off.fits (bit0 (modeByte p true opcode base)) = true :=
  (signedIsLong_eq hopcode).symm ▸ h

/-- Settles O57: every signed indexed opcode has its bit 0 set. -/
theorem signedIndexed : Obligations.SignedIndexed := by
  constructor
  · intro x hx s dst src1 base
    have hrow : ∀ off, IsModeRow (x.1 dst src1 base off) true x.2.1 x.2.2 .indexed
        ["dst", "src1", "src2"] (base :: offsetBytes off ++ [src1, dst]) := by
      fin_cases hx <;> exact fun _ => ⟨⟨rfl, rfl, rfl, rfl, rfl, rfl, rfl, rfl⟩, rfl⟩
    have hlength : ∀ off, (instrRow (x.1 dst src1 base off)).t.length = 5 := by
      fin_cases hx <;> exact fun _ => rfl
    have hopcode : bit0 x.2.1 = true := by fin_cases hx <;> rfl
    have hcompletes : ∀ off, IndexOffset.fits (signedIsLong s.cfg base) off = true → _ :=
      fun off hfits => (hrow off).indexed_completes (names := ["dst", "src1"])
        (regs := [dst, src1]) rfl (hlength off) (fits_of_signedIsLong hopcode hfits)
    exact ⟨fun hshort off => hcompletes (.byte off) (by simp [IndexOffset.fits, hshort]),
      fun hlong off => hcompletes (.word off) hlong⟩
  · intro x hx s dst base
    have hrow : ∀ off, IsModeRow (x.1 dst base off) true x.2.1 x.2.2 .indexed ["dst", "src"]
        (base :: offsetBytes off ++ [dst]) := by
      fin_cases hx <;> exact fun _ => ⟨⟨rfl, rfl, rfl, rfl, rfl, rfl, rfl, rfl⟩, rfl⟩
    have hlength : ∀ off, (instrRow (x.1 dst base off)).t.length = 4 := by
      fin_cases hx <;> exact fun _ => rfl
    have hopcode : bit0 x.2.1 = true := by fin_cases hx <;> rfl
    have hcompletes : ∀ off, IndexOffset.fits (signedIsLong s.cfg base) off = true → _ :=
      fun off hfits => (hrow off).indexed_completes (names := ["dst"]) (regs := [dst]) rfl
        (hlength off) (fits_of_signedIsLong hopcode hfits)
    exact ⟨fun hshort off => hcompletes (.byte off) (by simp [IndexOffset.fits, hshort]),
      fun hlong off => hcompletes (.word off) hlong⟩

/-! ## The rows of the 0xCx group -/

/-- Settles O48: as the indirect rows of the middle group; PUSH and POP with no register. -/
theorem cxIndirect : Obligations.CxIndirect := by
  constructor
  · intro x hx s src ptr
    have hrow : IsModeRow (x.1 src ptr) false x.2.1 x.2.2 .indirect ["src", "dst"] [ptr, src] := by
      fin_cases hx <;> exact ⟨⟨rfl, rfl, rfl, rfl, rfl, rfl, rfl, rfl⟩, rfl⟩
    exact hrow.indirect_completes (names := ["src"]) (regs := [src]) rfl rfl
  · intro x hx s ptr
    have hrow : IsModeRow (x.1 ptr) false x.2.1 x.2.2.1 .indirect [x.2.2.2] [ptr] := by
      fin_cases hx <;> exact ⟨⟨rfl, rfl, rfl, rfl, rfl, rfl, rfl, rfl⟩, rfl⟩
    exact hrow.indirect_completes (names := []) (regs := []) rfl rfl

/-- Settles O49: as the indexed rows of the middle group; PUSH and POP with no register. -/
theorem cxIndexed : Obligations.CxIndexed := by
  constructor
  · intro x hx s src base
    obtain ⟨t, hexec, ht⟩ : ∃ t, (∀ off, exec (x.1 src base off) s =
        runRow s t false x.2.1 (base :: offsetBytes off ++ [src]) resolveIndexed) ∧
        IndexedTemplate t x.2.2 ["src"] "dst" := by
      fin_cases hx <;> exact ⟨_, fun _ => rfl, rfl, rfl, rfl, rfl, rfl, rfl, rfl, rfl⟩
    have hcompletes : ∀ off, indexFits base off = true → _ := fun off =>
      indexed_completes ht (regs := [src]) (hexec off) rfl
    exact ⟨fun hbase off => hcompletes (.byte off) (indexFits_byte hbase),
      fun hbase off => hcompletes (.word off) (indexFits_word hbase)⟩
  · intro x hx s base
    obtain ⟨t, hexec, ht⟩ : ∃ t, (∀ off, exec (x.1 base off) s =
        runRow s t false x.2.1 (base :: offsetBytes off ++ []) resolveIndexed) ∧
        IndexedTemplate t x.2.2.1 [] x.2.2.2 := by
      fin_cases hx <;> exact ⟨_, fun off => by rw [List.append_nil]; rfl,
        rfl, rfl, rfl, rfl, rfl, rfl, rfl, rfl⟩
    have hcompletes : ∀ off, indexFits base off = true → _ := fun off =>
      indexed_completes ht (regs := []) (hexec off) rfl
    exact ⟨fun hbase off => hcompletes (.byte off) (indexFits_byte hbase),
      fun hbase off => hcompletes (.word off) (indexFits_word hbase)⟩

end Machine
end Sys2Proof
end

section
/-! SUPPORT. The final byte length of a record (spec/30_encoding.md R86), and the signed
instructions beside the unsigned ones of the same opcode (R76, R84;
spec/49_middle_group_signed.md R359): what the resolver by mode writes depends on the operand bytes,
the declared operands and the mode alone. -/

namespace Sys2Proof
namespace Machine

variable {p : Params} {f g : Fetched} {e : Eval} {i j : Instr} {s : State} {mode : Mode}
  {bytes : List Byte} {addr : Nat} {name : String}

/-! ## The final byte length -/

/-- The length formula of R86, on the record. -/
theorem initRecord_byteLength (addr : Nat) (f : Fetched) : (initRecord addr f).byteLength =
    f.t.length + (if (initRecord addr f).mode = .longIndexed ∧ f.t.mode = .indexed then 1 else 0) +
      (if f.signed then 1 else 0) := by
  change f.t.length + (isLongIndexed f.t f.modeBit).toNat + f.signed.toNat = _
  rw [toNat_eq_ite, toNat_eq_ite]
  simp only [← refinedMode_longIndexed_iff]
  rfl

theorem FetchedFrom.length_bounds (h : FetchedFrom p bytes f) (htables : hasDefaultTables p) :
    1 ≤ finalLength f.t f.signed f.modeBit ∧ finalLength f.t f.signed f.modeBit ≤ 7 := by
  have hsuits := rowSuits_of_lookup htables h.lookup f.modeBit
  simp only [rowSuits, Bool.and_eq_true, decide_eq_true_eq] at hsuits
  obtain ⟨⟨hbounds, -⟩, -⟩ := hsuits
  exact hbounds

/-- Settles O13: the longest row is the signed long-indexed MUL, as O57 gives it. -/
theorem finalByteLength : Obligations.FinalByteLength := by
  constructor
  · intro p bytes f addr hclass
    have h := fetchedFrom_of_classify hclass
    exact ⟨initRecord_byteLength addr f, h.raw_length, h.raw, h.length_bounds⟩
  · intro s dst src1 base off _ hbase
    obtain ⟨hrows, -⟩ := signedIndexed
    obtain ⟨-, hlong⟩ := hrows (.mul3Idx, 0x4F, "SGN MUL") (by simp) s dst src1 base
    obtain ⟨r, hexec, -, -, -, -, -, hlength, -, -, -, hraw, -⟩ :=
      hlong (by simp [signedIsLong, hbase]) off
    exact ⟨r, hexec, hlength, by rw [hraw]; rfl⟩

/-! ## What a resolver writes -/

/-- Under this mode and an empty `seen` set, what is written, or that nothing is, does not depend on
the evaluation. -/
def WritesSame (mode : Mode) (res : Eval → Option Eval) : Prop :=
  ∃ w : Option (List Operand × List Nat), ∀ e, e.record.mode = mode → e.seen = [] →
    (res e).map Eval.record = w.map e.writing

theorem WritesSame.none : WritesSame mode fun _ => none := ⟨.none, fun _ _ _ => rfl⟩

theorem WritesSame.ite {c : Prop} [Decidable c] {res res' : Eval → Option Eval}
    (h : WritesSame mode res) (h' : WritesSame mode res') :
    WritesSame mode fun e => if c then res e else res' e := by
  split
  · exact h
  · exact h'

theorem WritesSame.plain (p : Params) (f : Fetched) (c : Nat) :
    WritesSame mode fun e => some (plain p c f e) :=
  ⟨some (f.walkWrites p c []), fun e _ hseen => by simp [plain_writing, hseen]⟩

theorem WritesSame.plainThen (p : Params) (f : Fetched) (v : OperandVal) :
    WritesSame mode fun e => some (plainThen v p f e) :=
  ⟨some ((f.walkWrites p (f.n - 1) []).1 ++ [⟨f.lastName, v⟩], (f.walkWrites p (f.n - 1) []).2),
    fun e _ hseen => by simp [plainThen_writing, hseen]⟩

theorem WritesSame.congr {res res' : Eval → Option Eval} (h : WritesSame mode res)
    (heq : ∀ e, e.record.mode = mode → res' e = res e) : WritesSame mode res' := by
  obtain ⟨w, hw⟩ := h
  exact ⟨w, fun e hmode hseen => by rw [heq e hmode]; exact hw e hmode hseen⟩

theorem resolveIndirect_writesSame (p : Params) (f : Fetched) (mode : Mode) :
    WritesSame mode (resolveIndirect p f) :=
  (WritesSame.ite (WritesSame.plainThen p f
    (if mode = .indirectInc then .indInc (f.op 0 &&& p.indPtrMask)
      else .ind (f.op 0 &&& p.indPtrMask))) .none).congr
    fun e hmode => by rw [resolveIndirect, hmode]

theorem resolveByMode_writesSame (p : Params) (f : Fetched) (mode : Mode) :
    WritesSame mode (resolveByMode p f) := by
  cases mode with
  | direct =>
    exact WritesSame.congr (res := resolveDirect p f) (.ite (.plain p f _) .none)
      fun e hmode => by rw [resolveByMode, hmode]
  | immediate =>
    exact WritesSame.congr (res := resolveImmediate p f)
      (.ite (.plainThen p f _) (.ite (.plainThen p f _) .none))
      fun e hmode => by rw [resolveByMode, hmode]
  | indirect | indirectInc =>
    exact WritesSame.congr (res := resolveIndirect p f) (resolveIndirect_writesSame p f _)
      fun e hmode => by rw [resolveByMode, hmode]
  | indexed | shortIndexed =>
    exact WritesSame.congr (res := resolveShortIndexed p f) (.ite (.plainThen p f _) .none)
      fun e hmode => by rw [resolveByMode, hmode]
  | longIndexed =>
    exact WritesSame.congr (res := resolveLongIndexed p f) (.ite (.plainThen p f _) .none)
      fun e hmode => by rw [resolveByMode, hmode]
  | _ =>
    exact WritesSame.none.congr fun e hmode => by rw [resolveByMode, hmode]

/-- The resolver by mode sees of a fetched instruction its operand bytes and its declared
operands. -/
theorem resolveByMode_congr (hops : g.ops = f.ops) (ht : g.t.ops = f.t.ops) :
    resolveByMode p g = resolveByMode p f := by
  have hplain : ∀ c, plain p c g = plain p c f := fun c => by
    funext e
    rw [plain, plain, ht, hops]
  have hplainThen : ∀ v, plainThen v p g = plainThen v p f := fun v => by
    funext e
    simp only [plainThen, hplain, Fetched.n, Fetched.lastName, ht]
  funext e
  simp only [resolveByMode, resolveDirect, resolveImmediate, resolveIndirect, resolveShortIndexed,
    resolveLongIndexed, Fetched.L, Fetched.n, Fetched.op, hops, ht, hplain, hplainThen]
  rfl

/-- The records of fetched instructions that differ neither in operand bytes, nor in declared
operands, nor in the refined mode. -/
theorem decodeRecord_byMode (p : Params) (addr : Nat) (f : Fetched) :
    ∃ (operands : List Operand) (targets : List Nat) (checked : Bool), ∀ g : Fetched,
      g.ops = f.ops → g.t.ops = f.t.ops →
      refinedMode g.t g.modeBit = refinedMode f.t f.modeBit →
      decodeRecord p addr g resolveByMode = { initRecord addr g with
        operands, checked,
        xrefs := targets.map fun t : Nat => ⟨addr, t, adjustedMnemonic g.t g.signed⟩ } := by
  by_cases hnil : f.t.ops = []
  · exact ⟨[], [], true, fun g _ ht _ => decodeRecord_inherent p addr g _ (ht.trans hnil)⟩
  · obtain ⟨w, hw⟩ := resolveByMode_writesSame p f (refinedMode f.t f.modeBit)
    have hres : ∀ g : Fetched, g.ops = f.ops → g.t.ops = f.t.ops →
        refinedMode g.t g.modeBit = refinedMode f.t f.modeBit →
        (resolveByMode p g ⟨initRecord addr g, []⟩).map Eval.record =
          w.map (Eval.writing ⟨initRecord addr g, []⟩) := fun g hops ht hmode => by
      rw [resolveByMode_congr hops ht]
      exact hw _ hmode rfl
    cases w with
    | none =>
      refine ⟨[], [], false, fun g hops ht hmode => ?_⟩
      exact decodeRecord_unhandled p addr g _ (ht ▸ hnil)
        (Option.map_eq_none_iff.mp (hres g hops ht hmode))
    | some w =>
      refine ⟨w.1, w.2, true, fun g hops ht hmode => ?_⟩
      obtain ⟨e, he, hrecord⟩ := Option.map_eq_some_iff.mp (hres g hops ht hmode)
      rw [decodeRecord_handled p addr g _ e (ht ▸ hnil) he, hrecord]
      rfl

/-! ## Signed twins -/

/-- A signed row and the unsigned row of the same opcode and operand bytes, whose templates differ
in mnemonic and description (spec/30_encoding.md R76). -/
structure IsTwin (i j : Instr) (name : String) : Prop where
  signed    : (instrRow i).signed = true
  unsigned  : (instrRow j).signed = false
  opcode    : (instrRow i).opcode = (instrRow j).opcode
  byMode    : groupResolver (groupOf (instrRow j).opcode) = resolveByMode
  bytes     : operandBytes i = operandBytes j
  modeByte  : ∃ b rest, operandBytes j = b :: rest
  template  : ∃ description,
    (instrRow i).t = { (instrRow j).t with mnemonic := name, description := description }

namespace IsTwin

variable (h : IsTwin i j name)
include h

theorem raw_eq : encode p i = p.signedPrefix :: encode p j := by
  rw [encode, encode, h.signed, h.unsigned, h.opcode, h.bytes]
  rfl

/-- Under `operand` the mode byte of both is the first operand byte (spec/30_encoding.md R80). -/
theorem modeBit_eq (hoperand : p.signedModeByte = .operand) :
    (fetchedOf p i).modeBit = (fetchedOf p j).modeBit := by
  obtain ⟨b, rest, hbytes⟩ := h.modeByte
  obtain ⟨description, ht⟩ := h.template
  have hneeds : needsModeByte (instrRow i).t = needsModeByte (instrRow j).t := by rw [ht]; rfl
  change modeBitOf _ _ _ _ = modeBitOf _ _ _ _
  rw [h.bytes, hbytes, modeBitOf_rowBytes, modeBitOf_rowBytes, modeByte_operand hoperand,
    modeByte_operand hoperand, hneeds]

/-- The two records have the same operands, cross-reference targets and Checked. -/
theorem recordOf_eq (hoperand : p.signedModeByte = .operand) (addr : Nat) :
    ∃ (operands : List Operand) (targets : List Nat) (checked : Bool),
      (∀ k ∈ [i, j], recordOf p addr k = { initRecord addr (fetchedOf p k) with
        operands, checked, xrefs := targets.map fun t : Nat =>
          ⟨addr, t, adjustedMnemonic (instrRow k).t (instrRow k).signed⟩ }) ∧
      refinedMode (instrRow i).t (fetchedOf p i).modeBit =
        refinedMode (instrRow j).t (fetchedOf p j).modeBit ∧
      (fetchedOf p i).ops = (fetchedOf p j).ops := by
  obtain ⟨description, ht⟩ := h.template
  have hops : (fetchedOf p i).ops = (fetchedOf p j).ops := by
    rw [fetchedOf_ops, fetchedOf_ops, h.bytes]
  have hdeclared : (instrRow i).t.ops = (instrRow j).t.ops := by rw [ht]
  have hmode : refinedMode (instrRow i).t (fetchedOf p i).modeBit =
      refinedMode (instrRow j).t (fetchedOf p j).modeBit := by
    rw [h.modeBit_eq hoperand, ht]
    rfl
  obtain ⟨operands, targets, checked, hrecord⟩ := decodeRecord_byMode p addr (fetchedOf p j)
  refine ⟨operands, targets, checked, fun k hk => ?_, hmode, hops⟩
  rcases List.mem_pair.mp hk with rfl | rfl
  · rw [recordOf, h.opcode, h.byMode]
    exact hrecord _ hops hdeclared hmode
  · rw [recordOf, h.byMode]
    exact hrecord _ rfl rfl rfl

theorem byteLength_eq (hoperand : p.signedModeByte = .operand) :
    finalLength (instrRow i).t (instrRow i).signed (fetchedOf p i).modeBit =
      finalLength (instrRow j).t (instrRow j).signed (fetchedOf p j).modeBit + 1 := by
  obtain ⟨description, ht⟩ := h.template
  rw [h.modeBit_eq hoperand, h.signed, h.unsigned, ht]
  rfl

theorem mnemonic_eq :
    adjustedMnemonic (instrRow i).t (instrRow i).signed = "SGN " ++ name := by
  obtain ⟨description, ht⟩ := h.template
  rw [h.signed, ht]
  rfl

end IsTwin

/-- Settles O33: both rows are resolved by the mode, over the same operand bytes, declared operands
and mode bit. -/
theorem signedTwins : Obligations.SignedTwins := by
  intro s d a b w o hoperand x hx
  have h : IsTwin x.1 x.2.1 x.2.2 := by
    fin_cases hx <;>
      exact ⟨rfl, rfl, rfl, by dsimp only [instrRow]; rfl, rfl, ⟨_, _, rfl⟩, _, rfl⟩
  obtain ⟨operands, targets, checked, hrecord, hmode, hops⟩ := h.recordOf_eq hoperand s.addr
  have hr := hrecord x.1 List.mem_cons_self
  have hu := hrecord x.2.1 (List.mem_pair.mpr (.inr rfl))
  obtain ⟨description, ht⟩ := h.template
  have hvar : (instrRow x.1).t.variableLength = (instrRow x.2.1).t.variableLength := by rw [ht]
  have hauto : autoIncrementFlag (instrRow x.1).t (fetchedOf s.cfg x.1).modeBit =
      autoIncrementFlag (instrRow x.2.1).t (fetchedOf s.cfg x.2.1).modeBit := by
    rw [h.modeBit_eq hoperand, ht]
    rfl
  have hignore : (instrRow x.1).t.ignore = (instrRow x.2.1).t.ignore := by rw [ht]
  have hreserved : (instrRow x.1).t.reserved = (instrRow x.2.1).t.reserved := by rw [ht]
  refine ⟨_, _, exec_eq_recordOf x.1 s, exec_eq_recordOf x.2.1 s, ?_⟩
  rw [hr, hu]
  exact ⟨h.mnemonic_eq, h.signed, h.unsigned, h.byteLength_eq hoperand, h.raw_eq, hops, hmode, rfl,
    hvar, hauto, hignore, hreserved, rfl, by simp⟩

end Machine
end Sys2Proof
end

section
/-! SUPPORT. The offset calculator, XREF, and what each resolver writes, said by index into the
declared operands and the operand bytes (spec/40_resolution.md R110, R121-R135, R149). -/

namespace Sys2Proof
namespace Machine

variable {p : Params} {f : Fetched} {e : Eval} {c : Nat} {v : OperandVal} {res : Resolver}

/-! ## The offset calculator -/

/-- The first two steps of R110 extend the opcode's low three bits by their sign. -/
theorem offset11_high : ∀ b0 : Byte,
    (if b0 &&& 0x07 &&& 0x04 ≠ 0 then b0 &&& 0x07 ||| 0xFC else b0 &&& 0x07) =
      (b0.extractLsb' 0 3).signExtend 8 := by
  decide

theorem offset11_eq (b0 b1 : Byte) :
    offset11 b0 b1 = (b0.extractLsb' 0 3 ++ b1 : BitVec 11).toInt := by
  have hext : ((b0.extractLsb' 0 3).signExtend 8).toInt = (b0.extractLsb' 0 3).toInt :=
    BitVec.toInt_signExtend_of_le (by decide)
  rw [offset11, offset11_high, sext, BitVec.toInt_append, BitVec.toInt_append, hext]
  rfl

/-- Settles O19: eleven bits read as two's complement. -/
theorem offsetCalculator : Obligations.OffsetCalculator := by
  refine ⟨fun b0 b1 => ?_, by decide, by decide, by decide⟩
  have hlow := BitVec.le_toInt (b0.extractLsb' 0 3 ++ b1 : BitVec 11)
  have hhigh := BitVec.toInt_lt (x := (b0.extractLsb' 0 3 ++ b1 : BitVec 11))
  exact ⟨offset11_eq b0 b1, offset11_eq b0 b1 ▸ hlow, offset11_eq b0 b1 ▸ by omega⟩

/-! ## XREF, CALL and JUMP -/

/-- Settles O21: both append, without a guard. -/
theorem callsAndJumpsUnconditional : Obligations.CallsAndJumpsUnconditional :=
  fun _ _ => ⟨rfl, rfl⟩

/-- An operand joins those that are written behind it. -/
theorem operand_writing (e : Eval) (name : String) (v : OperandVal) (w : List Operand × List Nat) :
    (e.operand name v).writing w = e.writing (⟨name, v⟩ :: w.1, w.2) := by
  simp [Eval.writing, Eval.operand, Eval.edge]

/-- A register offered to XREF joins those that are offered behind it. -/
theorem xref_writing (b : Byte) (bs : List Byte) (operands : List Operand) (e : Eval) :
    (e.xref p b).writing (operands, newTargets p (e.xref p b).seen bs) =
      e.writing (operands, newTargets p e.seen (b :: bs)) := by
  rcases Eval.xref_cases p b e with ⟨habove, hnew, heq⟩ | ⟨hold, heq⟩
  · rw [heq, newTargets_cons_new ⟨habove, hnew⟩]
    simp [Eval.writing, Eval.edge]
  · rw [heq, newTargets_cons_old hold]

/-- Offering a list of registers emits those that are new and above the threshold. -/
theorem xrefAll_record (regs : List Byte) (e : Eval) :
    (e.xrefAll p regs).record = e.writing ([], newTargets p e.seen regs) := by
  induction regs generalizing e with
  | nil => simp [Eval.xrefAll, Eval.writing, newTargets]
  | cons b bs ih => exact (ih (e.xref p b)).trans (xref_writing b bs [] e)

theorem xref_new {b : Byte} (h : p.xrefThreshold < b.toNat ∧ b.toNat ∉ e.seen) :
    e.xref p b = { record := { e.record with xrefs := e.record.xrefs ++ [e.edge b.toNat] },
                   seen := e.seen ++ [b.toNat] } :=
  if_pos h

theorem xref_old {b : Byte} (h : ¬ (p.xrefThreshold < b.toNat ∧ b.toNat ∉ e.seen)) :
    e.xref p b = e :=
  if_neg h

/-- Settles O20: from an empty `seen` set the new targets are those above the threshold. -/
theorem crossReferenceEmission : Obligations.CrossReferenceEmission := by
  refine ⟨fun p v e => ⟨xref_new, xref_old⟩, fun p r regs => ?_, fun v e hv => ?_, ?_⟩
  · rw [xrefAll_record, newTargets_empty]
    simp [Eval.writing, Eval.edge]
  · have hthreshold : defaultParams.xrefThreshold = 2 := rfl
    exact xref_old fun habove => by omega
  · exact fun p addr f res e => decodeRecord_handled p addr f res e

/-! ## The walk over operand bytes, by index -/

/-- What stands for the descriptor of an operand that is not declared. -/
def noDesc : OperandDesc := ⟨"", .reg, .B, []⟩

/-- `t.ops[k]`. -/
def Fetched.desc (f : Fetched) (k : Nat) : OperandDesc := f.t.ops.getD k noDesc

theorem Fetched.name_eq (f : Fetched) (k : Nat) : f.name k = (f.desc k).name :=
  List.getD_map f.t.ops noDesc OperandDesc.name

theorem Fetched.role_eq (f : Fetched) (k : Nat) :
    (f.t.ops.map OperandDesc.role).getD k .reg = (f.desc k).role :=
  List.getD_map f.t.ops noDesc OperandDesc.role

/-- PLAIN's pairs of descriptor and byte, by index (spec/40_resolution.md R126). -/
theorem Fetched.walk_eq (hn : c ≤ f.n) (hL : c ≤ f.L) :
    f.walk c = (List.range c).map fun k => (f.desc k, f.walkByte k) := by
  have hn' : c ≤ f.t.ops.length := hn
  have hL' : c ≤ f.ops.length := hL
  refine List.ext_getElem (by simp [Fetched.walk]; omega) fun k hk hk' => ?_
  have hkc : k < c := by simpa using hk'
  have hops : k < f.t.ops.length := by omega
  have hbyte : f.ops.length - 1 - k < f.ops.length := by omega
  simp [Fetched.walk, Fetched.desc, Fetched.walkByte, Fetched.op, Fetched.L, hops, hbyte]

/-- A record after a walk, by the targets its registers add. -/
theorem walked_eq (e : Eval) (new : List Operand) (regs : List Byte) :
    e.walked p new regs = e.writing (new, newTargets p e.seen regs) := by
  rw [Eval.walked, xrefAll_record]
  rfl

theorem walkWrites_eq (hn : c ≤ f.n) (hL : c ≤ f.L) (seen : List Nat) :
    f.walkWrites p c seen = (f.plainOperands c, newTargets p seen (f.plainBytes c)) := by
  simp only [Fetched.walkWrites, Fetched.walk_eq hn hL, List.map_map, Fetched.plainOperands,
    Fetched.plainBytes, Fetched.name_eq]
  rfl

theorem plain_walked (hn : c ≤ f.n) (hL : c ≤ f.L) (e : Eval) :
    (plain p c f e).record = e.walked p (f.plainOperands c) (f.plainBytes c) := by
  rw [plain_writing, walkWrites_eq hn hL, walked_eq]

/-- Settles O23: the walk of pairs is the walk by index. -/
theorem plainRegisterWalk : Obligations.PlainRegisterWalk :=
  fun _ _ e _ hn hL => plain_walked hn hL e

/-! ## The per-mode resolvers -/

theorem Fetched.lastName_eq (h : 1 ≤ f.n) : f.lastName = f.name (f.n - 1) := by
  have hlast : f.t.ops.getLast? = some (f.desc (f.n - 1)) := by
    have hlt : f.t.ops.length - 1 < f.t.ops.length := Nat.sub_lt h Nat.one_pos
    simp [List.getLast?_eq_getElem?, Fetched.desc, Fetched.n, hlt]
  rw [Fetched.lastName, hlast, Fetched.name_eq]

theorem endsWith_of_plainThen (hn : 1 ≤ f.n) (hL : f.n ≤ f.L + 1)
    (hres : res p f e = some (plainThen v p f e)) : endsWith res p f e v := by
  refine ⟨_, hres, ?_⟩
  rw [plainThen_writing, walkWrites_eq (Nat.sub_le _ _) (by omega), Fetched.lastName_eq hn,
    walked_eq]

/-- Settles O24: DIRECT is PLAIN(n); the three bytes are decoded by evaluation. -/
theorem directResolver : Obligations.DirectResolver := by
  refine ⟨fun p f e => ⟨fun hL => ?_, fun hL => if_neg hL⟩, fun addr => ?_⟩
  · exact ⟨_, if_pos hL, plain_walked le_rfl hL.ge e⟩
  · exact ⟨_, rfl, rfl, rfl⟩

/-- Settles O25: w = 1 is L = n, and w = 2 is L = n + 1. -/
theorem immediateResolver : Obligations.ImmediateResolver := by
  intro p f e w hn hw
  refine ⟨fun h1 => ?_, fun h2 => ?_, fun ⟨h1, h2⟩ => ?_⟩
  · have hL : f.L = f.n := by omega
    exact endsWith_of_plainThen hn (by omega) (if_pos hL)
  · have hL : f.L = f.n + 1 := by omega
    exact endsWith_of_plainThen hn (by omega) ((if_neg (by omega)).trans (if_pos hL))
  · exact (if_neg (by omega)).trans (if_neg (by omega))

/-- A resolver that asks for one length and ends a walk with one operand. -/
theorem endsWith_of_length_test {L : Nat} (hn : 1 ≤ f.n) (hL : f.n ≤ L)
    (hres : res p f e = if f.L = L then some (plainThen v p f e) else none) :
    (f.L = L → endsWith res p f e v) ∧ (f.L ≠ L → res p f e = none) :=
  ⟨fun h => endsWith_of_plainThen hn (by omega) (hres.trans (if_pos h)),
    fun h => hres.trans (if_neg h)⟩

/-- Settles O26: each of the five asks for one length and ends PLAIN(n-1) with one operand. -/
theorem pointerAndIndexResolvers : Obligations.PointerAndIndexResolvers := by
  intro p f e hn
  refine ⟨endsWith_of_length_test hn le_rfl ?_,
    endsWith_of_length_test hn (Nat.le_add_right _ _) rfl,
    endsWith_of_length_test hn (Nat.le_add_right _ _) rfl,
    endsWith_of_length_test hn le_rfl rfl,
    endsWith_of_length_test hn (Nat.le_add_right _ _) rfl⟩
  simp only [resolveIndirect, indirectValue, decide_eq_true_eq]

/-! ## FIXED -/

/-- The value of a FIXED operand with an accepted role (spec/40_resolution.md R135). -/
def fixedValue (p : Params) (role : Role) (b : Byte) : OperandVal :=
  match role with
  | .imm8 => .imm8 b
  | .ind => .ind (b &&& p.indPtrMask)
  | .reg | .aop | .cnt | .ptr | .cadd | .bitno => .reg b

theorem fixedAccepts_iff (role : Role) :
    fixedAccepts role = true ↔ role = .reg ∨ role = .imm8 ∨ role = .ind := by
  cases role <;> decide

/-- The operands and the targets that FIXED writes over pairs of descriptor and byte. -/
def fixedWrites (p : Params) (l : List (OperandDesc × Byte)) (seen : List Nat) :
    List Operand × List Nat :=
  (l.map fun x => ⟨x.1.name, fixedValue p x.1.role x.2⟩,
    newTargets p seen ((l.filter fun x => x.1.role == .reg).map Prod.snd))

/-- FIXED over pairs of descriptor and byte: only a register is offered to XREF. -/
theorem foldl_fixedOperand_record (l : List (OperandDesc × Byte))
    (h : ∀ x ∈ l, fixedAccepts x.1.role = true) (e : Eval) :
    (l.foldl (fun e x => fixedOperand p x.1 x.2 e) e).record =
      e.writing (fixedWrites p l e.seen) := by
  induction l generalizing e with
  | nil => simp [Eval.writing, fixedWrites, newTargets]
  | cons x l ih =>
    obtain ⟨hx, hl⟩ := List.forall_mem_cons.mp h
    rw [List.foldl_cons, ih hl]
    rcases (fixedAccepts_iff x.1.role).mp hx with hrole | hrole | hrole <;>
      simp [fixedOperand, fixedValue, fixedWrites, hrole, Eval.regOperand, xref_writing,
        operand_writing]

theorem Fetched.walk_all (f : Fetched) : f.walk f.n = f.t.ops.zip f.ops.reverse := by
  rw [Fetched.walk, Fetched.n, List.take_length]

theorem resolveFixed_eq (hL : f.L = f.n) (hroles : ∀ d ∈ f.t.ops, fixedAccepts d.role = true)
    (e : Eval) : ∃ e', resolveFixed p f e = some e' ∧
      e'.record = e.writing (fixedWrites p (f.walk f.n) e.seen) := by
  refine ⟨_, if_pos ⟨hL, List.all_eq_true.mpr hroles⟩, ?_⟩
  rw [Fetched.walk_all]
  exact foldl_fixedOperand_record _ (fun x hx => hroles x.1 (List.of_mem_zip hx).1) e

/-- Settles O27: FIXED over the walk of all declared operands, by index. -/
theorem fixedResolver : Obligations.FixedResolver := by
  intro p f e
  have haccepts : (∀ d ∈ f.t.ops, d.role = .reg ∨ d.role = .imm8 ∨ d.role = .ind) ↔
      ∀ d ∈ f.t.ops, fixedAccepts d.role = true := by
    simp only [fixedAccepts_iff]
  rw [haccepts]
  refine ⟨fun ⟨hL, hroles⟩ => ?_, fun h => if_neg ?_⟩
  · obtain ⟨e', he', hrecord⟩ := resolveFixed_eq (p := p) hL hroles e
    refine ⟨e', he', ?_⟩
    rw [hrecord, fixedWrites, Fetched.walk_eq le_rfl hL.ge, walked_eq, List.filter_map,
      List.map_map, List.map_map]
    simp only [Fetched.role_eq, Fetched.name_eq]
    congr 2
    refine List.map_congr_left fun k _ => ?_
    simp only [Function.comp_apply, fixedValue]
    cases (f.desc k).role <;> rfl
  · rwa [List.all_eq_true]

/-! ## Checked -/

/-- Settles O29: an unhandled resolver leaves the initial record, and a step with the default tables
meets the invariant. -/
theorem checkedOnlyWhenHandled : Obligations.CheckedOnlyWhenHandled := by
  refine ⟨fun p addr f res hops => ⟨fun e he => decodeRecord_handled p addr f res e hops he,
    fun hnone r hr => ?_⟩, fun s t r htables hstep hout => ?_⟩
  · rw [hr, decodeRecord_unhandled p addr f res hops hnone]
    exact ⟨rfl, rfl, rfl, rfl, rfl, rfl, rfl, rfl⟩
  · obtain ⟨hfit, -⟩ := step_next hstep
    obtain ⟨t', hstep', -, -, hwf⟩ := everyEvaluationAnswersConsistently s htables hfit
    cases hstep'.symm.trans hstep
    rw [State.outputWf, hout] at hwf
    obtain ⟨-, hchecked, -⟩ := hwf
    exact hchecked

end Machine
end Sys2Proof
end

section
/-! SUPPORT. The rows whose resolver writes a code address, an edge, or operands by their roles
(spec/41_short_jump_call.md to spec/45_ex_group.md; spec/47_low_group.md R282), and the direct and
immediate rows resolved by the mode (spec/46_cx_group.md, spec/48_middle_group.md). -/

namespace Sys2Proof
namespace Machine

variable {p : Params} {i : Instr} {s : State} {e : Eval} {res : Resolver} {addr : Nat}
  {opcode b : Byte} {mnemonic mnemonic' : String} {mode mode' : Mode} {names : List String}
  {name last : String} {bytes regs : List Byte} {operands : List Operand} {v : OperandVal}
  {calls jumps : List Int} {target disp : Int} {r : Record} {x : Expected}

/-! ## Rows with a resolver of their own -/

/-- An unsigned row whose mode no step refines (spec/30_encoding.md R83), and the resolver that its
opcode selects. -/
structure IsResolvedRow (i : Instr) (opcode : Byte) (mnemonic : String) (mode : Mode)
    (names : List String) (bytes : List Byte) (res : Resolver) : Prop
    extends IsRow i false opcode mnemonic mode names bytes where
  notIndexed  : mode ≠ .indexed
  notIndirect : mode ≠ .indirect
  resolves    : ∀ p f e, f.opcode = opcode → groupResolver (groupOf opcode) p f e = res p f e

/-- The record with the parts of `x` that a resolver writes. -/
def Record.resolvedTo (p : Params) (x : Expected) (r : Record) : Record :=
  { r with
    mnemonic := x.mnemonic
    mode := x.mode
    operands := x.operands
    xrefs := xrefEdges p r.address x.mnemonic x.regs
    calls := x.calls.map fun t => ⟨r.address, t, x.mnemonic⟩
    jumps := x.jumps.map fun t => ⟨r.address, t, x.mnemonic⟩ }

/-- The calls and jumps of an expected record. -/
theorem Record.says.edges_eq (h : r.says p addr x) :
    r.calls = x.calls.map (fun t => ⟨addr, t, x.mnemonic⟩) ∧
      r.jumps = x.jumps.map (fun t => ⟨addr, t, x.mnemonic⟩) := by
  obtain ⟨-, -, -, -, -, -, -, -, -, -, -, -, -, -, -, -, -, -, hedges⟩ := h
  exact hedges

namespace IsResolvedRow

variable (h : IsResolvedRow i opcode mnemonic mode names bytes res)
include h

theorem wf : i.wf p = true := wf_of_mode_ne_indexed (h.mode_eq ▸ h.notIndexed)

theorem refinedMode_eq (modeBit : Bool) : refinedMode (instrRow i).t modeBit = mode := by
  have hnotIndexed := h.notIndexed
  have hnotIndirect := h.notIndirect
  unfold refinedMode
  rw [h.mode_eq]
  split <;> trivial

theorem byteLength_eq : finalLength (instrRow i).t (instrRow i).signed (fetchedOf p i).modeBit =
    bytes.length + 1 := by
  rw [← (wf_iff_hasFinalLength p i).mp h.wf, encode, rowBytes, h.signed_eq, h.bytes_eq]
  rfl

theorem resolves_start (p : Params) (addr : Nat) :
    groupResolver (groupOf (instrRow i).opcode) p (fetchedOf p i) (startOf p addr i) =
      res p (fetchedOf p i) (startOf p addr i) := by
  rw [h.opcode_eq]
  exact h.resolves p _ _ h.opcode_eq

/-- The end of the instruction, from which displacements count (spec/40_resolution.md R114). -/
theorem endAddr_eq : (startOf p addr i).endAddr = addr + (bytes.length + 1) :=
  congrArg (addr + ·) h.byteLength_eq

theorem target_eq (disp : Int) :
    (startOf p addr i).target disp = addr + (bytes.length + 1 : Nat) + disp := by
  rw [Eval.target, h.endAddr_eq, Nat.cast_add]

/-- A row completes with what its resolver writes. -/
theorem completes (hne : names ≠ [])
    (hres : res s.cfg (fetchedOf s.cfg i) (startOf s.cfg s.addr i) = some e)
    (hrecord : e.record = (startOf s.cfg s.addr i).record.resolvedTo s.cfg
      { opcode, mnemonic := mnemonic', mode := mode', operands, raw := opcode :: bytes, regs,
        calls, jumps }) :
    Completes i s
      { opcode, mnemonic := mnemonic', mode := mode', operands, raw := opcode :: bytes, regs,
        calls, jumps } := by
  have hops : (instrRow i).t.ops ≠ [] := fun hnil => hne (by rw [← h.names_eq, hnil]; rfl)
  have hdeclared := recordOf_operandsDeclared (p := s.cfg) h.wf s.addr
  refine ⟨_, exec_eq_recordOf i s, ?_⟩
  rw [recordOf, decodeRecord_handled _ _ _ _ _ hops ((h.resolves_start _ _).trans hres),
    hrecord] at hdeclared ⊢
  have hcount : operands.length = (instrRow i).t.ops.length := by
    obtain ⟨-, hlength, -⟩ := hdeclared
    exact hlength.trans (List.length_map _)
  have hraw : encode s.cfg i = opcode :: bytes := by
    rw [encode, h.signed_eq, h.opcode_eq, h.bytes_eq]
    rfl
  have hvariable : (instrRow i).t.variableLength = false := by
    simpa [h.variableLength_eq] using h.notIndexed
  have hauto : autoIncrementFlag (instrRow i).t (fetchedOf s.cfg i).modeBit = false := by
    simp [autoIncrementFlag, h.mode_eq, h.notIndirect]
  have hrawOps : (fetchedOf s.cfg i).ops = bytes := (fetchedOf_ops ..).trans h.bytes_eq
  exact ⟨h.opcode_eq, rfl, h.signed_eq, rfl, rfl, h.byteLength_eq, hcount.symm, rfl, hdeclared,
    hraw, hrawOps, hvariable, hauto, h.signed_eq, h.ignore_eq, instrRow_reserved i, rfl, rfl, rfl,
    rfl⟩

/-- Where the resolver rewrites neither mnemonic nor mode, its edges are those of the initial
record (spec/40_resolution.md R124). -/
theorem resolvedTo_eq : (startOf p addr i).record.resolvedTo p
      { opcode, mnemonic, mode, operands, raw := opcode :: bytes, regs, calls, jumps } =
    { (startOf p addr i).record with
      operands
      xrefs := (xrefTargets p regs).map fun t : Nat => (startOf p addr i).edge t
      calls := calls.map (startOf p addr i).edge
      jumps := jumps.map (startOf p addr i).edge } := by
  have hmnemonic : (startOf p addr i).record.mnemonic = mnemonic := by
    rw [← h.mnemonic_eq, ← h.signed_eq]
    rfl
  have hmode : (startOf p addr i).record.mode = mode := h.refinedMode_eq _
  rw [← hmnemonic, ← hmode]
  rfl

end IsResolvedRow

/-! ## One code address and one edge -/

theorem IsResolvedRow.jump_completes
    (h : IsResolvedRow i opcode mnemonic mode [name] bytes res)
    (hres : res s.cfg (fetchedOf s.cfg i) (startOf s.cfg s.addr i) =
      some (((startOf s.cfg s.addr i).operand name v).jump target)) :
    Completes i s
      { opcode, mnemonic, mode, operands := [⟨name, v⟩], raw := opcode :: bytes,
        jumps := [target] } :=
  h.completes (List.cons_ne_nil _ _) hres (by rw [h.resolvedTo_eq]; rfl)

theorem IsResolvedRow.call_completes
    (h : IsResolvedRow i opcode mnemonic mode [name] bytes res)
    (hres : res s.cfg (fetchedOf s.cfg i) (startOf s.cfg s.addr i) =
      some (((startOf s.cfg s.addr i).operand name v).call target)) :
    Completes i s
      { opcode, mnemonic, mode, operands := [⟨name, v⟩], raw := opcode :: bytes,
        calls := [target] } :=
  h.completes (List.cons_ne_nil _ _) hres (by rw [h.resolvedTo_eq]; rfl)

/-- A jump to the code address at a displacement from the end (spec/40_resolution.md R114). -/
theorem IsResolvedRow.relativeJump_completes
    (h : IsResolvedRow i opcode mnemonic mode [name] bytes res)
    (hres : res s.cfg (fetchedOf s.cfg i) (startOf s.cfg s.addr i) =
      some (((startOf s.cfg s.addr i).codeAddress name disp).jump
        ((startOf s.cfg s.addr i).target disp)))
    (htarget : s.addr + (bytes.length + 1 : Nat) + disp = target) :
    Completes i s
      { opcode, mnemonic, mode, operands := [⟨name, .cadd target⟩], raw := opcode :: bytes,
        jumps := [target] } := by
  refine h.jump_completes ?_
  rw [hres, ← htarget, ← h.target_eq (p := s.cfg)]
  rfl

/-- A call of the code address at a displacement from the end (spec/40_resolution.md R114). -/
theorem IsResolvedRow.relativeCall_completes
    (h : IsResolvedRow i opcode mnemonic mode [name] bytes res)
    (hres : res s.cfg (fetchedOf s.cfg i) (startOf s.cfg s.addr i) =
      some (((startOf s.cfg s.addr i).codeAddress name disp).call
        ((startOf s.cfg s.addr i).target disp)))
    (htarget : s.addr + (bytes.length + 1 : Nat) + disp = target) :
    Completes i s
      { opcode, mnemonic, mode, operands := [⟨name, .cadd target⟩], raw := opcode :: bytes,
        calls := [target] } := by
  refine h.call_completes ?_
  rw [hres, ← htarget, ← h.target_eq (p := s.cfg)]
  rfl

/-- The three high bits of a short displacement are in the opcode byte (spec/30_encoding.md R79). -/
theorem extractLsb'_shortOpcode : ∀ high : BitVec 3,
    (0x20 ||| high.setWidth 8 : Byte).extractLsb' 0 3 = high ∧
      (0x28 ||| high.setWidth 8 : Byte).extractLsb' 0 3 = high := by
  decide

/-- The offset calculator reads back the displacement of a short jump or call. -/
theorem offset11_of_high {disp : BitVec 11}
    (hopcode : opcode.extractLsb' 0 3 = disp.extractLsb' 8 3) :
    offset11 opcode (byteOf disp 0) = disp.toInt := by
  rw [offset11_eq, hopcode, disp11_split]

/-- Settles O35: the offset calculator reads back the displacement that the opcode and the next byte
hold. -/
theorem shortJumpAndCall : Obligations.ShortJumpAndCall := by
  intro s disp
  obtain ⟨hjump, hcall⟩ := extractLsb'_shortOpcode (disp.extractLsb' 8 3)
  constructor
  · have hrow : IsResolvedRow (.sjmp disp) (0x20 ||| (disp.extractLsb' 8 3).setWidth 8) "SJMP"
        .relative ["cadd"] [byteOf disp 0] resolveShortJump :=
      ⟨⟨rfl, rfl, rfl, rfl, rfl, rfl, rfl, rfl⟩, nofun, nofun, fun _ _ _ _ => by
        rw [groupOf_shortJump]; rfl⟩
    refine hrow.relativeJump_completes (disp := disp.toInt) ?_ rfl
    rw [← offset11_of_high hjump]
    rfl
  · have hrow : IsResolvedRow (.scall disp) (0x28 ||| (disp.extractLsb' 8 3).setWidth 8) "SCALL"
        .relative ["cadd"] [byteOf disp 0] resolveShortCall :=
      ⟨⟨rfl, rfl, rfl, rfl, rfl, rfl, rfl, rfl⟩, nofun, nofun, fun _ _ _ _ => by
        rw [groupOf_shortCall]; rfl⟩
    refine hrow.relativeCall_completes (disp := disp.toInt) ?_ rfl
    rw [← offset11_of_high hcall]
    rfl

/-- Settles O37: no row's meaning depends on its condition. -/
theorem conditionalJumps : Obligations.ConditionalJumps := by
  intro x hx s disp
  have hrow : IsResolvedRow (x.1 disp) x.2.1 x.2.2 .relative ["cadd"] [disp] resolveCondJump := by
    fin_cases hx <;> exact ⟨⟨rfl, rfl, rfl, rfl, rfl, rfl, rfl, rfl⟩, nofun, nofun,
      fun _ _ _ _ => rfl⟩
  exact hrow.relativeJump_completes (disp := disp.toInt) (by fin_cases hx <;> rfl) rfl

/-- Settles O41: the two displacement bytes are the word they were made of. -/
theorem longJumpAndCall : Obligations.LongJumpAndCall := by
  intro s disp
  have hdisp : sext (le16 (byteOf disp 0) (byteOf disp 1)) = disp.toInt := by
    rw [le16_byteOf, sext]
  constructor
  · have hrow : IsResolvedRow (.ljmp disp) 0xE7 "LJMP" .relative ["cadd"]
        [byteOf disp 0, byteOf disp 1] resolveLongJump :=
      ⟨⟨rfl, rfl, rfl, rfl, rfl, rfl, rfl, rfl⟩, nofun, nofun, fun p f e h => by
        simp [groupResolver, groupOf, resolveEx, h]⟩
    refine hrow.relativeJump_completes (disp := disp.toInt) ?_ rfl
    rw [← hdisp]
    rfl
  · have hrow : IsResolvedRow (.lcall disp) 0xEF "LCALL" .relative ["cadd"]
        [byteOf disp 0, byteOf disp 1] resolveLongCall :=
      ⟨⟨rfl, rfl, rfl, rfl, rfl, rfl, rfl, rfl⟩, nofun, nofun, fun p f e h => by
        simp [groupResolver, groupOf, resolveEx, h]⟩
    refine hrow.relativeCall_completes (disp := disp.toInt) ?_ rfl
    rw [← hdisp]
    rfl

/-- The masked target of EJMP and ECALL (spec/40_resolution.md R113). -/
theorem IsResolvedRow.extTarget_eq {disp : BitVec 24}
    (h : IsResolvedRow i opcode mnemonic mode names
      [byteOf disp 0, byteOf disp 1, byteOf disp 2] res) :
    (startOf p addr i).extTarget p (byteOf disp 0) (byteOf disp 1) (byteOf disp 2) =
      xtarget p (addr + 4) disp.toInt := by
  rw [Eval.extTarget, h.endAddr_eq, le24_byteOf]
  rfl

/-- Settles O40: both rows are four bytes long, so that their target counts from `addr + 4`. -/
theorem extendedJumpAndCall : Obligations.ExtendedJumpAndCall := by
  intro s disp
  constructor
  · have hrow : IsResolvedRow (.ejmp disp) 0xE6 "EJMP" .extendedRelative ["cadd"]
        [byteOf disp 0, byteOf disp 1, byteOf disp 2] resolveExtJump :=
      ⟨⟨rfl, rfl, rfl, rfl, rfl, rfl, rfl, rfl⟩, nofun, nofun, fun p f e h => by
        simp [groupResolver, groupOf, resolveEx, h]⟩
    refine hrow.jump_completes ?_
    rw [← hrow.extTarget_eq]
    rfl
  · have hrow : IsResolvedRow (.ecall disp) 0xF1 "ECALL" .extendedRelative ["cadd"]
        [byteOf disp 0, byteOf disp 1, byteOf disp 2] resolveExtCall :=
      ⟨⟨rfl, rfl, rfl, rfl, rfl, rfl, rfl, rfl⟩, nofun, nofun, fun p f e h => if_pos h⟩
    refine hrow.call_completes ?_
    rw [← hrow.extTarget_eq]
    rfl

/-- Masking by 0x1FFFFF is reduction modulo 2^21, also below zero. -/
theorem maskInt_21 (x : Int) : (maskInt x 0x1FFFFF : Int) = x % 2 ^ 21 :=
  maskInt_two_pow_sub_one x 21

/-- Settles O22: EJMP and ECALL as O40 gives them. -/
theorem extendedTargetMask : Obligations.ExtendedTargetMask := by
  refine ⟨fun p endAddr x0 x1 x2 hmask => ⟨fun hpoint => ?_, fun hpoint => ?_⟩, fun s disp => ?_⟩
  · rw [xtarget, hpoint, hmask]
    exact maskInt_21 _
  · rw [xtarget, hpoint, hmask]
    dsimp only
    rw [Nat.cast_add, maskInt_21]
    rfl
  · obtain ⟨⟨r, hjump, hr⟩, ⟨r', hcall, hr'⟩⟩ := extendedJumpAndCall s disp
    refine ⟨r, r', hjump, ?_, hcall, ?_⟩
    · obtain ⟨-, hjumps⟩ := hr.edges_eq
      rw [hjumps]
      rfl
    · obtain ⟨hcalls, -⟩ := hr'.edges_eq
      rw [hcalls]
      rfl

/-! ## A register, then a code address -/

/-- A register operand writes itself and is offered to XREF. -/
theorem regOperand_record (name : String) (b : Byte) (e : Eval) :
    (e.regOperand p name b).record = e.writing ([⟨name, .reg b⟩], newTargets p e.seen [b]) := by
  rw [← operand_writing e name (.reg b) ([], newTargets p e.seen [b])]
  exact xrefAll_record [b] (e.operand name (.reg b))

/-- Operands that are not offered to XREF. -/
theorem foldl_operand_record (operands : List Operand) (e : Eval) :
    (operands.foldl (fun e x => e.operand x.name x.value) e).record =
      { e.record with operands := e.record.operands ++ operands } := by
  induction operands generalizing e with
  | nil => simp
  | cons x operands ih =>
    rw [List.foldl_cons, ih]
    simp [Eval.operand]

/-- A register, then operands that are not offered to XREF, then a jump. -/
theorem IsResolvedRow.registerJump_completes
    (h : IsResolvedRow i opcode mnemonic mode (name :: names) bytes res)
    (hres : res s.cfg (fetchedOf s.cfg i) (startOf s.cfg s.addr i) =
      some ((operands.foldl (fun e x => e.operand x.name x.value)
        ((startOf s.cfg s.addr i).regOperand s.cfg name b)).jump target)) :
    Completes i s
      { opcode, mnemonic, mode, operands := ⟨name, .reg b⟩ :: operands, raw := opcode :: bytes,
        regs := [b], jumps := [target] } := by
  refine h.completes (List.cons_ne_nil _ _) hres ?_
  rw [h.resolvedTo_eq, ← newTargets_empty]
  simp only [Eval.jump, Eval.edge, foldl_operand_record, regOperand_record]
  rfl

/-- Settles O38: a register, then the code address. -/
theorem loopJumps : Obligations.LoopJumps := by
  intro x hx s cnt disp
  have hrow : IsResolvedRow (x.1 cnt disp) x.2.1 x.2.2 .relative ["cnt", "cadd"] [cnt, disp]
      resolveDjnz := by
    fin_cases hx <;> exact ⟨⟨rfl, rfl, rfl, rfl, rfl, rfl, rfl, rfl⟩, nofun, nofun,
      fun p f e h => by
        simp [groupResolver, groupOf, resolveEx, h]⟩
  have hcompletes := hrow.registerJump_completes
    (operands := [⟨"cadd", .cadd ((startOf s.cfg s.addr (x.1 cnt disp)).target disp.toInt)⟩])
    (by fin_cases hx <;> rfl)
  rwa [hrow.target_eq] at hcompletes

theorem extractLsb'_bitTestOpcode : ∀ bitno : BitVec 3,
    (0x30 ||| bitno.setWidth 8 : Byte).extractLsb' 0 3 = bitno ∧
      (0x38 ||| bitno.setWidth 8 : Byte).extractLsb' 0 3 = bitno := by
  decide

/-- Settles O36: the bit index is read back from the opcode byte. -/
theorem bitTestJumps : Obligations.BitTestJumps := by
  intro x hx s bitno reg disp
  have hrow : IsResolvedRow (x.1 bitno reg disp) (x.2.1 ||| bitno.setWidth 8) x.2.2 .relative
      ["reg", "bitno", "cadd"] [reg, disp] resolveBitTest := by
    fin_cases hx
    · exact ⟨⟨rfl, rfl, rfl, rfl, rfl, rfl, rfl, rfl⟩, nofun, nofun, fun _ _ _ _ => by
        rw [groupOf_bitClear]; rfl⟩
    · exact ⟨⟨rfl, rfl, rfl, rfl, rfl, rfl, rfl, rfl⟩, nofun, nofun, fun _ _ _ _ => by
        rw [groupOf_bitSet]; rfl⟩
  have hbitno : (x.2.1 ||| bitno.setWidth 8).extractLsb' 0 3 = bitno := by
    fin_cases hx
    · exact (extractLsb'_bitTestOpcode bitno).1
    · exact (extractLsb'_bitTestOpcode bitno).2
  have hcompletes := hrow.registerJump_completes
    (operands := [⟨"bitno", .bitno ((x.2.1 ||| bitno.setWidth 8).extractLsb' 0 3)⟩,
      ⟨"cadd", .cadd ((startOf s.cfg s.addr (x.1 bitno reg disp)).target disp.toInt)⟩])
    (by fin_cases hx <;> rfl)
  rwa [hbitno, hrow.target_eq] at hcompletes

/-! ## BR and EBR -/

/-- Mnemonic and mode rewritten, one operand, and a jump to a register that is then offered to XREF
(spec/45_ex_group.md R233). -/
theorem IsResolvedRow.registerBranch_completes
    (h : IsResolvedRow i opcode mnemonic mode [name] bytes res)
    (hres : res s.cfg (fetchedOf s.cfg i) (startOf s.cfg s.addr i) =
      some (((((startOf s.cfg s.addr i).retag mnemonic' mode').operand name v).jump
        b.toNat).xref s.cfg b)) :
    Completes i s
      { opcode, mnemonic := mnemonic', mode := mode', operands := [⟨name, v⟩],
        raw := opcode :: bytes, regs := [b], jumps := [b.toNat] } := by
  refine h.completes (List.cons_ne_nil _ _) hres ?_
  refine (xrefAll_record [b] _).trans ?_
  rw [Record.resolvedTo, xrefEdges, ← newTargets_empty]
  rfl

/-- Settles O39: bit 0 of the pointer byte selects the branch of the resolver. -/
theorem branchIndirect : Obligations.BranchIndirect := by
  intro s ptr
  have hrow : IsResolvedRow (.ebr ptr) 0xE3 "EBR" .extendedIndirect ["ptr"] [ptr]
      resolveBranchIndirect :=
    ⟨⟨rfl, rfl, rfl, rfl, rfl, rfl, rfl, rfl⟩, nofun, nofun, fun p f e h => by
      simp [groupResolver, groupOf, resolveEx, h]⟩
  exact ⟨fun hclear => hrow.registerBranch_completes (if_neg (by simp [hclear])),
    fun hset => hrow.registerBranch_completes (if_pos hset)⟩

/-! ## FIXED -/

/-- FIXED over the declared operands and the operand bytes in reverse (spec/40_resolution.md
R135). -/
theorem IsResolvedRow.fixed_completes
    (h : IsResolvedRow i opcode mnemonic mode names bytes resolveFixed) (hne : names ≠ [])
    (hlen : bytes.length = names.length)
    (hroles : (instrRow i).t.ops.all (fun d => fixedAccepts d.role) = true)
    (hwrites : fixedWrites s.cfg ((instrRow i).t.ops.zip bytes.reverse) [] =
      (operands, newTargets s.cfg [] regs)) :
    Completes i s { opcode, mnemonic, mode, operands, raw := opcode :: bytes, regs } := by
  have hL : (fetchedOf s.cfg i).L = (fetchedOf s.cfg i).n := by
    rw [h.n_eq, Fetched.L, fetchedOf_ops, h.bytes_eq, hlen]
  obtain ⟨e, hres, hrecord⟩ := resolveFixed_eq (p := s.cfg) hL (List.all_eq_true.mp hroles)
    (startOf s.cfg s.addr i)
  have hzip : (fetchedOf s.cfg i).walk (fetchedOf s.cfg i).n =
      (instrRow i).t.ops.zip bytes.reverse := by
    rw [Fetched.walk_all, fetchedOf_ops, h.bytes_eq]
    rfl
  have hseen : (startOf s.cfg s.addr i).seen = [] := rfl
  refine h.completes hne hres ?_
  rw [hrecord, hzip, hseen, hwrites, newTargets_empty, h.resolvedTo_eq]
  rfl

/-- Settles O42: three rows of FIXED, each with its roles. -/
theorem fixedLayoutInstructions : Obligations.FixedLayoutInstructions := by
  refine ⟨fun s tbase mask index => ?_, fun s ptrs cnt => ?_, fun s key => ?_⟩
  · have hrow : IsResolvedRow (.tijmp tbase mask index) 0xE2 "TIJMP" .fixed
        ["tbase", "mask", "index"] [index, mask, tbase] resolveFixed :=
      ⟨⟨rfl, rfl, rfl, rfl, rfl, rfl, rfl, rfl⟩, nofun, nofun, fun p f e h => by
        simp [groupResolver, groupOf, resolveEx, h]⟩
    exact hrow.fixed_completes (List.cons_ne_nil _ _) rfl rfl rfl
  · have hrow : IsResolvedRow (.ebmovi ptrs cnt) 0xE4 "EBMOVI" .fixed ["ptrs", "cnt"]
        [cnt, ptrs] resolveFixed :=
      ⟨⟨rfl, rfl, rfl, rfl, rfl, rfl, rfl, rfl⟩, nofun, nofun, fun p f e h => by
        simp [groupResolver, groupOf, resolveEx, h]⟩
    exact hrow.fixed_completes (List.cons_ne_nil _ _) rfl rfl rfl
  · have hrow : IsResolvedRow (.idlpd key) 0xF6 "IDLPD" .fixed ["key"] [key] resolveFixed :=
      ⟨⟨rfl, rfl, rfl, rfl, rfl, rfl, rfl, rfl⟩, nofun, nofun, fun p f e h => by
        simp [groupResolver, groupOf, resolveFx, h]⟩
    exact hrow.fixed_completes (List.cons_ne_nil _ _) rfl rfl rfl

/-! ## Extended loads and stores -/

/-- A walk of the registers, and an operand from the bytes in front of them that is not offered to
XREF. -/
theorem IsResolvedRow.plainThen_completes
    (h : IsResolvedRow i opcode mnemonic mode (names ++ [last]) (bytes ++ regs.reverse) res)
    (hlen : names.length = regs.length)
    (hres : res s.cfg (fetchedOf s.cfg i) (startOf s.cfg s.addr i) =
      some (plainThen v s.cfg (fetchedOf s.cfg i) (startOf s.cfg s.addr i))) :
    Completes i s
      { opcode, mnemonic, mode, operands := regOperands names regs ++ [⟨last, v⟩],
        raw := opcode :: (bytes ++ regs.reverse), regs } := by
  have hreverse := reverse_ops (p := s.cfg) h.bytes_eq
  refine h.completes (by simp) hres ?_
  rw [h.resolvedTo_eq, plainThen_record hreverse h.names_eq hlen, ← newTargets_empty]
  rfl

/-- Settles O43: EINDIRECT and EINDEXED end a walk of one register. -/
theorem extendedLoadsAndStores : Obligations.ExtendedLoadsAndStores := by
  constructor
  · intro x hx s dst ptr
    have hrow : IsResolvedRow (x.1 dst ptr) x.2.1 x.2.2 .extendedIndirect ["dst", "src"] [ptr, dst]
        resolveExtended := by
      fin_cases hx <;> exact ⟨⟨rfl, rfl, rfl, rfl, rfl, rfl, rfl, rfl⟩, nofun, nofun,
        fun p f e h => by
          simp [groupResolver, groupOf, resolveEx, h]⟩
    exact hrow.plainThen_completes (names := ["dst"]) (bytes := [ptr]) (regs := [dst]) rfl
      (by fin_cases hx <;> rfl)
  · intro x hx s reg ptr disp
    have hrow : IsResolvedRow (x.1 reg ptr disp) x.2.1 x.2.2.1 .extendedIndexed
        [x.2.2.2.1, x.2.2.2.2] [ptr, byteOf disp 0, byteOf disp 1, byteOf disp 2, reg]
        resolveExtended := by
      have hresolves : ∀ p f e, f.opcode = x.2.1 →
          groupResolver (groupOf x.2.1) p f e = resolveExtended p f e := by
        intro p f e h
        fin_cases hx <;> simp [groupResolver, groupOf, resolveLow, resolveEx, h]
      fin_cases hx <;> exact ⟨⟨rfl, rfl, rfl, rfl, rfl, rfl, rfl, rfl⟩, nofun, nofun, hresolves⟩
    have hcompletes := hrow.plainThen_completes (s := s) (names := [x.2.2.2.1])
      (bytes := [ptr, byteOf disp 0, byteOf disp 1, byteOf disp 2]) (regs := [reg])
      (v := .eidx (ptr &&& s.cfg.extPtrMask)
        (le24 (byteOf disp 0) (byteOf disp 1) (byteOf disp 2))) rfl (by fin_cases hx <;> rfl)
    rwa [le24_byteOf] at hcompletes

/-! ## Direct and immediate rows -/

/-- Settles O47: rows resolved by the mode, as those of the middle group. -/
theorem cxDirectAndImmediate : Obligations.CxDirectAndImmediate := by
  refine ⟨?_, ?_, ?_⟩
  · intro x hx s a b
    have hrow : IsModeRow (x.1 a b) false x.2.1 x.2.2.1 .direct [x.2.2.2.1, x.2.2.2.2] [b, a] := by
      fin_cases hx <;> exact ⟨⟨rfl, rfl, rfl, rfl, rfl, rfl, rfl, rfl⟩, rfl⟩
    exact hrow.direct_completes (regs := [a, b]) rfl (List.cons_ne_nil _ _)
  · intro x hx s a
    have hrow : IsModeRow (x.1 a) false x.2.1 x.2.2.1 .direct [x.2.2.2] [a] := by
      fin_cases hx <;> exact ⟨⟨rfl, rfl, rfl, rfl, rfl, rfl, rfl, rfl⟩, rfl⟩
    exact hrow.direct_completes (regs := [a]) rfl (List.cons_ne_nil _ _)
  · intro s imm
    have hrow : IsModeRow (.pushImm imm) false 0xC9 "PUSH" .immediate ["src"]
        [byteOf imm 0, byteOf imm 1] :=
      ⟨⟨rfl, rfl, rfl, rfl, rfl, rfl, rfl, rfl⟩, rfl⟩
    exact hrow.imm16_completes (names := []) (regs := []) rfl

/-- Settles O51: the count of bytes in front of the registers is the width of the immediate
(spec/40_resolution.md R128). -/
theorem middleImmediate : Obligations.MiddleImmediate := by
  refine ⟨?_, ?_, ?_, ?_⟩
  · intro x hx s dst src1 imm
    have hrow : IsModeRow (x.1 dst src1 imm) false x.2.1 x.2.2 .immediate ["dst", "src1", "src2"]
        [byteOf imm 0, byteOf imm 1, src1, dst] := by
      fin_cases hx <;> exact ⟨⟨rfl, rfl, rfl, rfl, rfl, rfl, rfl, rfl⟩, rfl⟩
    exact hrow.imm16_completes (names := ["dst", "src1"]) (regs := [dst, src1]) rfl
  · intro x hx s dst src1 imm
    have hrow : IsModeRow (x.1 dst src1 imm) false x.2.1 x.2.2 .immediate ["dst", "src1", "src2"]
        [imm, src1, dst] := by
      fin_cases hx <;> exact ⟨⟨rfl, rfl, rfl, rfl, rfl, rfl, rfl, rfl⟩, rfl⟩
    exact hrow.imm8_completes (names := ["dst", "src1"]) (regs := [dst, src1]) rfl
  · intro x hx s dst imm
    have hrow : IsModeRow (x.1 dst imm) false x.2.1 x.2.2 .immediate ["dst", "src"]
        [byteOf imm 0, byteOf imm 1, dst] := by
      fin_cases hx <;> exact ⟨⟨rfl, rfl, rfl, rfl, rfl, rfl, rfl, rfl⟩, rfl⟩
    exact hrow.imm16_completes (names := ["dst"]) (regs := [dst]) rfl
  · intro x hx s dst imm
    have hrow : IsModeRow (x.1 dst imm) false x.2.1 x.2.2 .immediate ["dst", "src"]
        [imm, dst] := by
      fin_cases hx <;> exact ⟨⟨rfl, rfl, rfl, rfl, rfl, rfl, rfl, rfl⟩, rfl⟩
    exact hrow.imm8_completes (names := ["dst"]) (regs := [dst]) rfl

end Machine
end Sys2Proof
end

section
/-! SUPPORT. The low-group walk said by index, and the rows it resolves without an offset: those
whose operands are all registers and those whose last operand may be an immediate
(spec/47_low_group.md R280, R281). -/

namespace Sys2Proof
namespace Machine

variable {p : Params} {i : Instr} {s : State} {f : Fetched}
  {opcode b : Byte} {mnemonic : String} {mode : Mode} {names : List String} {regs : List Byte}

/-! ## The walk, by index -/

theorem countIsImmediate_iff : countIsImmediate opcode b = true ↔
    opcode.getLsbD 3 = true ∧ opcode ≠ 0x0F ∧ b.toNat < 0x10 := by
  simp [countIsImmediate, BitVec.ult, and_assoc]

/-- The byte of the last declared operand in the walk from the last byte backwards
(spec/47_low_group.md R281). -/
theorem Fetched.reverse_ops_split (hn : 1 ≤ f.n) (hL : f.n ≤ f.L) :
    f.ops.reverse = f.ops.reverse.take (f.n - 1) ++ f.op (f.L - f.n) :: f.ops.reverse.drop f.n := by
  have hL' : f.n ≤ f.ops.length := hL
  have hlt : f.n - 1 < f.ops.reverse.length := by rw [List.length_reverse]; omega
  have hbyte : f.ops.reverse[f.n - 1] = f.op (f.L - f.n) := by
    have hindex : f.ops.length - 1 - (f.n - 1) = f.L - f.n := by rw [Fetched.L]; omega
    have hidx : f.L - f.n < f.ops.length := by rw [Fetched.L]; omega
    simp only [List.getElem_reverse, hindex, Fetched.op, List.getD_eq_getElem _ _ hidx]
  have hdrop := List.drop_eq_getElem_cons hlt
  rw [hbyte, Nat.sub_add_cancel hn] at hdrop
  rw [← hdrop, List.take_append_drop]

/-- The walk is PLAIN(n), or PLAIN(n-1) and an immediate (spec/47_low_group.md R281). -/
theorem resolveLowWalk_eq (hn : 1 ≤ f.n) (hL : f.n ≤ f.L) (e : Eval) :
    resolveLowWalk p f e = some (if countIsImmediate f.opcode (f.op (f.L - f.n)) then
      plainThen (.imm8 (f.op (f.L - f.n))) p f e else plain p f.n f e) := by
  have htake : f.n = (f.ops.reverse.take (f.n - 1)).length + 1 := by
    rw [Fetched.L] at hL
    rw [List.length_take, List.length_reverse]
    omega
  rw [resolveLowWalk, if_pos hL, ← plain_regOperand_last (f.reverse_ops_split hn hL) htake e]
  rfl

/-- Every operand of the walk has a byte, in the default table (spec/47_low_group.md R281). -/
theorem defaultTablesU_low_bytes {t : Template} (hlow : b.toNat < 0x20)
    (hlookup : lookupTemplate defaultParams false b = some t) : t.ops.length + 1 ≤ t.length := by
  have hmem : (b, t) ∈ defaultTemplatesU := mem_of_lookup hlookup
  have hrow := List.all_eq_true.mp defaultTables_bytesPerOperand _ (List.mem_append_left _ hmem)
  rw [if_neg (show ¬ b.toNat / 16 = 3 by omega)] at hrow
  exact of_decide_eq_true hrow

/-- Where bit 3 of the opcode is set, only the two indexed exchanges have more bytes than operands
(spec/47_low_group.md R281). -/
theorem defaultTablesU_count_bytes : defaultTemplatesU.all (fun x =>
    decide (x.1.toNat < 0x20 → x.1.getLsbD 3 = true → x.1 ≠ 0x0B → x.1 ≠ 0x1B → x.1 ≠ 0x1D →
      x.1 ≠ 0x1F → x.2.ops.length + 1 = x.2.length)) = true := by
  decide +kernel

/-- Settles O28: the walk is PLAIN with at most its last register replaced. -/
theorem lowGroupWalk : Obligations.LowGroupWalk := by
  refine ⟨fun p f e hn => ⟨fun hL => ⟨_, resolveLowWalk_eq hn hL e, ?_⟩,
    fun hL => if_neg (by omega)⟩, fun b hlow h1D h1F t hlookup _ => ⟨?_, fun hbit h0B h1B => ?_⟩⟩
  · simp only [← countIsImmediate_iff]
    split
    · rw [plainThen_writing, walkWrites_eq (Nat.sub_le _ _) (by omega), Fetched.lastName_eq hn,
        walked_eq]
    · exact plain_walked le_rfl hL e
  · exact defaultTablesU_low_bytes hlow hlookup
  · have hrow := List.all_eq_true.mp defaultTablesU_count_bytes (b, t) (mem_of_lookup hlookup)
    exact of_decide_eq_true hrow hlow hbit h0B h1B h1D h1F

/-! ## Rows of the walk -/

/-- A row of the walk whose opcode reads no immediate: registers, whatever their values
(spec/47_low_group.md R280, R281). -/
theorem IsResolvedRow.lowRegisters_completes
    (h : IsResolvedRow i opcode mnemonic mode names regs.reverse resolveLowWalk)
    (hcount : (opcode.getLsbD 3 && opcode != 0x0F) = false)
    (hlen : names.length = regs.length) (hne : regs ≠ []) :
    Completes i s
      { opcode, mnemonic, mode, operands := regOperands names regs,
        raw := opcode :: regs.reverse, regs } := by
  have hopcode : (fetchedOf s.cfg i).opcode = opcode := h.opcode_eq
  have hn : (fetchedOf s.cfg i).n = regs.length := h.n_eq.trans hlen
  have hL : (fetchedOf s.cfg i).L = regs.length := by
    rw [Fetched.L, fetchedOf_ops, h.bytes_eq, List.length_reverse]
  have hpos : 0 < regs.length := List.length_pos_of_ne_nil hne
  have hregister : ¬ countIsImmediate opcode
      ((fetchedOf s.cfg i).op ((fetchedOf s.cfg i).L - (fetchedOf s.cfg i).n)) = true := by
    rw [countIsImmediate, hcount, Bool.false_and]
    exact Bool.false_ne_true
  have hres := resolveLowWalk_eq (p := s.cfg) (hn ▸ hpos) (hn.trans hL.symm).le
    (startOf s.cfg s.addr i)
  rw [hopcode, if_neg hregister] at hres
  have hreverse := reverse_ops (p := s.cfg) (head := []) h.bytes_eq
  refine h.completes (List.ne_nil_of_length_pos (hlen ▸ hpos)) hres ?_
  rw [h.resolvedTo_eq, plain_record hreverse h.names_eq hlen, ← newTargets_empty]
  rfl

/-- Settles O44: the opcodes of these rows read no immediate. -/
theorem lowGroupRegisters : Obligations.LowGroupRegisters := by
  constructor
  · intro x hx s dst
    have hrow : IsResolvedRow (x.1 dst) x.2.1 x.2.2 .direct ["dst"] [dst] resolveLowWalk := by
      fin_cases hx <;> exact ⟨⟨rfl, rfl, rfl, rfl, rfl, rfl, rfl, rfl⟩, nofun, nofun,
        fun p f e h => by simp [groupResolver, groupOf, resolveLow, h]⟩
    exact hrow.lowRegisters_completes (regs := [dst]) (by fin_cases hx <;> rfl) rfl
      (List.cons_ne_nil _ _)
  · intro x hx s dst other
    have hrow : IsResolvedRow (x.1 dst other) x.2.1 x.2.2.1 .direct ["dst", x.2.2.2] [other, dst]
        resolveLowWalk := by
      fin_cases hx <;> exact ⟨⟨rfl, rfl, rfl, rfl, rfl, rfl, rfl, rfl⟩, nofun, nofun,
        fun p f e h => by simp [groupResolver, groupOf, resolveLow, h]⟩
    exact hrow.lowRegisters_completes (regs := [dst, other]) (by fin_cases hx <;> rfl) rfl
      (List.cons_ne_nil _ _)

/-- Settles O45: the byte in front of the register is the count or the pointer. -/
theorem lowGroupCounts : Obligations.LowGroupCounts := by
  intro x hx s first last
  obtain ⟨hgroup, hwalk, hcount⟩ : groupOf x.2.1 = .low ∧ ¬ (x.2.1 = 0x1D ∨ x.2.1 = 0x1F) ∧
      (x.2.1.getLsbD 3 && x.2.1 != 0x0F) = true := by
    fin_cases hx <;> decide
  have hrow : IsResolvedRow (x.1 first last) x.2.1 x.2.2.1 x.2.2.2.1
      [x.2.2.2.2.1, x.2.2.2.2.2] [last, first] resolveLowWalk := by
    have hresolves : ∀ p f e, f.opcode = x.2.1 →
        groupResolver (groupOf x.2.1) p f e = resolveLowWalk p f e := by
      intro p f e h
      rw [hgroup, groupResolver, resolveLow, h, if_neg hwalk]
    fin_cases hx <;> exact ⟨⟨rfl, rfl, rfl, rfl, rfl, rfl, rfl, rfl⟩, nofun, nofun, hresolves⟩
  have hcompletes := hrow.toIsRow.lowWalk_completes (s := s) (head := []) (regs := [first])
    (names := [x.2.2.2.2.1]) hgroup hwalk hcount rfl hrow.wf (hrow.refinedMode_eq _)
  rwa [beq_false_of_ne hrow.notIndexed, beq_false_of_ne hrow.notIndirect] at hcompletes

end Machine
end Sys2Proof
end

section
/-! SUPPORT. The checks of a classification and what more valid bytes change
(spec/60_exceptions.md R382, R383, R392): one equation of `classifyAt` per check, and under any
parameters a truncated window that grows and is still shorter than its need stays truncated with
it. -/

namespace Sys2Proof
namespace Machine

variable {p : Params} {first opcode : Byte} {signed : Bool} {bytes more : List Byte} {t : Template}
  {k : Nat}

/-! ## The opcode read -/

/-- The opcode is read at the front of the bytes, behind SIGNED_PREFIX exactly when it is signed;
`first` is the first byte (spec/30_encoding.md R72). -/
inductive OpensWith (p : Params) : Byte → Bool → Byte → List Byte → Prop where
  | unsigned {b : Byte} (rest : List Byte) (h : b ≠ p.signedPrefix) :
      OpensWith p b false b (b :: rest)
  | signed (b : Byte) (rest : List Byte) :
      OpensWith p p.signedPrefix true b (p.signedPrefix :: b :: rest)

theorem OpensWith.append (h : OpensWith p first signed opcode bytes) (more : List Byte) :
    OpensWith p first signed opcode (bytes ++ more) := by
  cases h with
  | unsigned rest hb => exact .unsigned (rest ++ more) hb
  | signed _ rest => exact .signed opcode (rest ++ more)

theorem OpensWith.classify_eq (h : OpensWith p first signed opcode bytes) :
    classify p bytes = classifyAt p first signed opcode bytes := by
  cases h with
  | unsigned rest hb => simp [classify, hb]
  | signed _ rest => simp [classify]

theorem classify_nil (p : Params) : classify p [] = .truncated 1 := rfl

theorem classify_lonePrefix (p : Params) : classify p [p.signedPrefix] = .truncated 2 := by
  simp [classify]

/-- Truncated by T0, by T1, or behind the opcode read (spec/60_exceptions.md R382). -/
theorem classify_truncated (h : classify p bytes = .truncated k) :
    (bytes = [] ∧ k = 1) ∨ (bytes = [p.signedPrefix] ∧ k = 2) ∨
      ∃ first signed opcode, OpensWith p first signed opcode bytes ∧
        classifyAt p first signed opcode bytes = .truncated k := by
  rcases classify_cases p bytes with
    ⟨rfl, hc⟩ | ⟨rfl, hc⟩ | ⟨b1, rest, rfl, hc⟩ | ⟨b0, rest, hb0, rfl, hc⟩
  · cases hc.symm.trans h
    exact .inl ⟨rfl, rfl⟩
  · cases hc.symm.trans h
    exact .inr (.inl ⟨rfl, rfl⟩)
  · exact .inr (.inr ⟨_, _, _, .signed b1 rest, hc.symm.trans h⟩)
  · exact .inr (.inr ⟨_, _, _, .unsigned rest hb0, hc.symm.trans h⟩)

/-! ## One equation per check -/

/-- The mode byte is needed and not among the valid bytes: check T2 fails
(spec/60_exceptions.md R382). -/
def lacksModeByte (p : Params) (t : Template) (signed : Bool) (bytes : List Byte) : Prop :=
  needsModeByte t = true ∧ bytes.length ≤ modeByteIndex p signed

/-- The final length that the template and the mode byte among the valid bytes give
(spec/30_encoding.md R86). -/
def lengthOf (p : Params) (t : Template) (signed : Bool) (bytes : List Byte) : Nat :=
  finalLength t signed (modeBitOf p t signed bytes)

theorem classifyAt_noTemplate (hlookup : lookupTemplate p signed opcode = none) :
    classifyAt p first signed opcode bytes = .unknown first := by
  simp [classifyAt, hlookup]

theorem classifyAt_lacksModeByte (hlookup : lookupTemplate p signed opcode = some t)
    (hmode : lacksModeByte p t signed bytes) :
    classifyAt p first signed opcode bytes = .truncated (modeByteIndex p signed + 1) := by
  obtain ⟨hneeds, hshort⟩ := hmode
  simp [classifyAt, hlookup, hneeds, hshort]

theorem classifyAt_short (hlookup : lookupTemplate p signed opcode = some t)
    (hmode : ¬ lacksModeByte p t signed bytes) (hshort : bytes.length < lengthOf p t signed bytes) :
    classifyAt p first signed opcode bytes = .truncated (lengthOf p t signed bytes) := by
  rw [lacksModeByte] at hmode
  rw [lengthOf] at hshort ⊢
  simp only [classifyAt, hlookup, Bool.and_eq_true, decide_eq_true_eq, hmode, if_false, hshort,
    if_true]

theorem classifyAt_whole (hlookup : lookupTemplate p signed opcode = some t)
    (hmode : ¬ lacksModeByte p t signed bytes) (hfits : lengthOf p t signed bytes ≤ bytes.length) :
    classifyAt p first signed opcode bytes = .fetched
      { t, signed, opcode, modeBit := modeBitOf p t signed bytes,
        raw := bytes.take (lengthOf p t signed bytes) } := by
  rw [lacksModeByte] at hmode
  rw [lengthOf] at hfits ⊢
  simp only [classifyAt, hlookup, Bool.and_eq_true, decide_eq_true_eq, hmode, if_false,
    hfits.not_gt]

/-- Settles O14: each outcome is one check's equation; the six examples of R383 are evaluated. -/
theorem outcomePriority : Obligations.OutcomePriority := by
  refine ⟨classify_nil, classify_lonePrefix, ?_, by decide, by decide, by decide, by decide, by decide,
    by decide⟩
  intro p first signed opcode bytes rest hfront
  have hopens : OpensWith p first signed opcode bytes := by
    obtain ⟨rfl, hfirst, rfl, rfl⟩ | ⟨rfl, rfl, rfl⟩ := hfront
    · exact .unsigned rest hfirst
    · exact .signed opcode rest
  rw [hopens.classify_eq]
  refine ⟨classifyAt_noTemplate, fun t hlookup => ⟨classifyAt_lacksModeByte hlookup, ?_⟩⟩
  rintro hmode len rfl
  exact ⟨classifyAt_short hlookup hmode, fun hfits =>
    ⟨_, classifyAt_whole hlookup hmode hfits, rfl⟩⟩

/-! ## More valid bytes -/

theorem lacksModeByte_of_append (h : lacksModeByte p t signed (bytes ++ more)) :
    lacksModeByte p t signed bytes := by
  obtain ⟨hneeds, hshort⟩ := h
  rw [List.length_append] at hshort
  exact ⟨hneeds, by omega⟩

/-- A mode byte among the valid bytes is the same one with more of them. -/
theorem lengthOf_append (hmode : ¬ lacksModeByte p t signed bytes) :
    lengthOf p t signed (bytes ++ more) = lengthOf p t signed bytes := by
  unfold lengthOf modeBitOf
  cases hneeds : needsModeByte t with
  | false => rfl
  | true =>
    have hidx : modeByteIndex p signed < bytes.length :=
      Nat.lt_of_not_ge fun hshort => hmode ⟨hneeds, hshort⟩
    rw [List.getD_append _ _ _ _ hidx]

/-- With too few bytes added the same check fails, with the same need. -/
theorem classifyAt_truncated_append (h : classifyAt p first signed opcode bytes = .truncated k)
    (hshort : (bytes ++ more).length < k) :
    classifyAt p first signed opcode (bytes ++ more) = .truncated k := by
  obtain ⟨t, hlookup, ⟨hneeds, -, rfl⟩ | ⟨hmode, -, rfl⟩⟩ := classifyAt_truncated h
  · exact classifyAt_lacksModeByte hlookup ⟨hneeds, Nat.le_of_lt_succ hshort⟩
  · have hlength : lengthOf p t signed (bytes ++ more) = lengthOf p t signed bytes :=
      lengthOf_append hmode
    have hmode' : ¬ lacksModeByte p t signed (bytes ++ more) :=
      fun hlacks => hmode (lacksModeByte_of_append hlacks)
    rw [classifyAt_short hlookup hmode' (hlength ▸ hshort), hlength]
    rfl

theorem classify_truncated_append (h : classify p bytes = .truncated k)
    (hshort : (bytes ++ more).length < k) : classify p (bytes ++ more) = .truncated k := by
  obtain ⟨rfl, rfl⟩ | ⟨rfl, rfl⟩ | ⟨first, signed, opcode, hopens, hat⟩ := classify_truncated h
  · obtain rfl : more = [] := List.length_eq_zero_iff.mp (Nat.lt_one_iff.mp hshort)
    exact classify_nil p
  · obtain rfl : more = [] := List.length_eq_zero_iff.mp (by simpa using hshort)
    exact classify_lonePrefix p
  · rw [(hopens.append more).classify_eq]
    exact classifyAt_truncated_append hat hshort

/-- Under any parameters (spec/60_exceptions.md R382). -/
theorem length_lt_of_classify_truncated (h : classify p bytes = .truncated k) :
    bytes.length < k := by
  obtain ⟨rfl, rfl⟩ | ⟨rfl, rfl⟩ | ⟨first, signed, opcode, -, hat⟩ := classify_truncated h
  · exact Nat.zero_lt_one
  · exact Nat.one_lt_two
  · obtain ⟨t, -, ⟨-, hshort, rfl⟩ | ⟨-, hshort, -⟩⟩ := classifyAt_truncated hat
    · exact Nat.lt_succ_of_le hshort
    · exact hshort

theorem decode_of_classify_truncated (h : classify p bytes = .truncated k) :
    decode p bytes = .truncated k := by
  simp [decode, h]

/-- Settles O16: a truncated window is shorter than its need, so a need reported for k bytes or more
is above k. -/
theorem truncatedNeed : Obligations.TruncatedNeed := by
  intro p bytes more k h
  have hclass := decode_truncated h
  refine ⟨length_lt_of_classify_truncated hclass, fun hshort => ?_, fun henough k' h' => ?_⟩
  · rw [← List.length_append] at hshort
    exact decode_of_classify_truncated (classify_truncated_append hclass hshort)
  · have hlt := length_lt_of_classify_truncated (decode_truncated h')
    rw [List.length_append] at hlt
    exact henough.trans_lt hlt

/-! ## Seven valid bytes -/

/-- Settles O9: with the default tables the output of a step is well formed for its inputs, and a
need above seven valid bytes and at most seven is none. -/
theorem fullWindowIsNeverTruncated : Obligations.FullWindowIsNeverTruncated := by
  intro s t htables hfit hseven hstep need hout
  obtain ⟨t', hstep', -, -, hwf⟩ := everyEvaluationAnswersConsistently s htables hfit
  cases hstep'.symm.trans hstep
  obtain ⟨-, -, havail, -⟩ := stepChangesOutputOnly s t hstep
  rw [State.outputWf, hout, havail] at hwf
  obtain ⟨hshort, hneed⟩ := hwf
  omega

end Machine
end Sys2Proof
end
